-- ==== Sys2Proof/Word.lean ====
section
/-! DEFINITION. The words of the block's host bus and wire (spec/30_encoding.md R90, spec/43_value_assembler.md R180). -/

namespace Sys2Proof

/-- A byte of the frame (R180). -/
abbrev Byte := BitVec 8

/-- A host register's value, and the data of a bus transaction (R71). -/
abbrev Word := BitVec 32

/-- A byte offset in the block's register window (R70). -/
abbrev Offset := BitVec 7

/-- A 40-bit transaction word (R90). -/
abbrev TW := BitVec 40

end Sys2Proof
end

