-- ==== Sys2Proof/Syntax.lean ====
section
/-! DEFINITION. The block's instruction set: one constructor per row of spec/opcode_table.json (spec/00_scope.md R2,
spec/30_encoding.md R93, R95). An operand the block ignores (WDATA of a read, WDATA[31:6] of a CTRL write) is no field. -/

namespace Sys2Proof

/-- A host bus transaction. `var`, `pu` and `ie` are the fields VARIANT, PULL_UP and IRQ_EN of R91. -/
inductive Instr where
  | ctrlNop (var : BitVec 2) (pu ie : Bool)
  | ctrlInit (var : BitVec 2) (pu ie : Bool)
  | ctrlReadDht11 (pu ie : Bool)
  | ctrlReadDht22 (pu ie : Bool)
  | ctrlReadSi7021 (pu ie : Bool)
  | ctrlReadRsvd
  | ctrlCmdRsvd
  | wrStatus (clrDone clrOvr clrCmderr : Bool)
  | wrRawLo
  | wrRawHi
  | wrHumX10
  | wrTempX10
  | wrHumF32
  | wrTempF32
  | rdCtrl
  | rdStatus
  | rdRawLo
  | rdRawHi
  | rdHumX10
  | rdTempX10
  | rdHumF32
  | rdTempF32
  | unmapped (we : Bool) (addr : Offset)
  deriving DecidableEq, Repr

/-- The row's mnemonic in spec/opcode_table.json (R95). -/
def Instr.mnemonic : Instr → String
  | .ctrlNop _ _ _ => "CTRL.NOP"
  | .ctrlInit _ _ _ => "CTRL.INIT"
  | .ctrlReadDht11 _ _ => "CTRL.READ.DHT11"
  | .ctrlReadDht22 _ _ => "CTRL.READ.DHT22"
  | .ctrlReadSi7021 _ _ => "CTRL.READ.SI7021"
  | .ctrlReadRsvd => "CTRL.READ.RSVD"
  | .ctrlCmdRsvd => "CTRL.CMD.RSVD"
  | .wrStatus _ _ _ => "WR.STATUS"
  | .wrRawLo => "WR.RAW_LO"
  | .wrRawHi => "WR.RAW_HI"
  | .wrHumX10 => "WR.HUM_X10"
  | .wrTempX10 => "WR.TEMP_X10"
  | .wrHumF32 => "WR.HUM_F32"
  | .wrTempF32 => "WR.TEMP_F32"
  | .rdCtrl => "RD.CTRL"
  | .rdStatus => "RD.STATUS"
  | .rdRawLo => "RD.RAW_LO"
  | .rdRawHi => "RD.RAW_HI"
  | .rdHumX10 => "RD.HUM_X10"
  | .rdTempX10 => "RD.TEMP_X10"
  | .rdHumF32 => "RD.HUM_F32"
  | .rdTempF32 => "RD.TEMP_F32"
  | .unmapped _ _ => "UNMAPPED"

end Sys2Proof
end

