-- ==== Sys2Proof/WellFormed.lean ====
section
/-! DEFINITION. Which instructions have a word of their own. The only check is UNMAPPED's: its offset is one that no other
row of spec/opcode_table.json takes (spec/30_encoding.md R95, spec/40_host_commands.md R130). Every value of every other
operand is legal (VARIANT = 3 with NOP and INIT too, R96). -/

namespace Sys2Proof

/-- The offset holds a register of the map: aligned and below 0x20 (R40, R72, R73). -/
abbrev MappedOffset (a : Offset) : Prop := a.toNat % 4 = 0 ∧ a.toNat < 0x20

/-- The instruction's operands are ones some transaction word carries. -/
def Instr.wellFormed : Instr → Bool
  | .unmapped _ addr => decide (¬ MappedOffset addr)
  | .ctrlNop _ _ _ | .ctrlInit _ _ _ | .ctrlReadDht11 _ _ | .ctrlReadDht22 _ _ | .ctrlReadSi7021 _ _
  | .ctrlReadRsvd | .ctrlCmdRsvd | .wrStatus _ _ _ | .wrRawLo | .wrRawHi | .wrHumX10 | .wrTempX10 | .wrHumF32
  | .wrTempF32 | .rdCtrl | .rdStatus | .rdRawLo | .rdRawHi | .rdHumX10 | .rdTempX10 | .rdHumF32 | .rdTempF32 => true

/-- `Instr.wellFormed` as a proposition. -/
abbrev WellFormed (i : Instr) : Prop := i.wellFormed = true

end Sys2Proof
end

