-- ==== Sys2Proof/Decode.lean ====
section
/-! DEFINITION. The transaction word's fields, the decoder and the encoder (spec/30_encoding.md R90 to R97), and the rows of
spec/opcode_table.json as data (R94). The decoder is total on 40-bit words; the one refusal, of a number that is no 40-bit
word, has a name of its own (R90: no transaction is longer). -/

namespace Sys2Proof

/-! ### The transaction word (R90) -/

/-- TW bit 39: 1 write, 0 read. -/
def twWe (w : TW) : Bool := w.getLsbD 39

/-- TW bits 38:32: the byte offset. -/
def twAddr (w : TW) : Offset := w.extractLsb' 32 7

/-- TW bits 31:0: the write data. -/
def twData (w : TW) : Word := w.extractLsb' 0 32

/-- The transaction word with these three fields. -/
def mkTW (we : Bool) (addr : Offset) (data : Word) : TW := BitVec.ofBool we ++ addr ++ data

/-! ### Decoding (R91 to R95) -/

/-- A CTRL write, from its write data (R91). -/
def decodeCtrl (d : Word) : Instr :=
  let cmd : BitVec 2 := d.extractLsb' 0 2
  let var : BitVec 2 := d.extractLsb' 2 2
  let pu := d.getLsbD 4
  let ie := d.getLsbD 5
  if cmd = 0b00#2 then .ctrlNop var pu ie
  else if cmd = 0b01#2 then .ctrlInit var pu ie
  else if cmd = 0b10#2 then
    if var = 0b00#2 then .ctrlReadDht11 pu ie
    else if var = 0b01#2 then .ctrlReadDht22 pu ie
    else if var = 0b10#2 then .ctrlReadSi7021 pu ie
    else .ctrlReadRsvd
  else .ctrlCmdRsvd

/-- A write transaction (R95, the rows with WE = 1; R92 for STATUS). -/
def decodeWrite (a : Offset) (d : Word) : Instr :=
  if a = 0x00#7 then decodeCtrl d
  else if a = 0x04#7 then .wrStatus (d.getLsbD 7) (d.getLsbD 8) (d.getLsbD 9)
  else if a = 0x08#7 then .wrRawLo
  else if a = 0x0C#7 then .wrRawHi
  else if a = 0x10#7 then .wrHumX10
  else if a = 0x14#7 then .wrTempX10
  else if a = 0x18#7 then .wrHumF32
  else if a = 0x1C#7 then .wrTempF32
  else .unmapped true a

/-- A read transaction (R95, the rows with WE = 0); its WDATA is ignored (R90). -/
def decodeRead (a : Offset) : Instr :=
  if a = 0x00#7 then .rdCtrl
  else if a = 0x04#7 then .rdStatus
  else if a = 0x08#7 then .rdRawLo
  else if a = 0x0C#7 then .rdRawHi
  else if a = 0x10#7 then .rdHumX10
  else if a = 0x14#7 then .rdTempX10
  else if a = 0x18#7 then .rdHumF32
  else if a = 0x1C#7 then .rdTempF32
  else .unmapped false a

/-- The transaction a 40-bit word is: every word is exactly one (R94). -/
def decode (w : TW) : Instr :=
  if twWe w then decodeWrite (twAddr w) (twData w) else decodeRead (twAddr w)

/-- Why a number is no transaction word. -/
inductive DecodeError where
  /-- The number needs more than 40 bits: no transaction is longer (R90, R97). -/
  | longerThanTW
  deriving DecidableEq, Repr

/-- The bits `w` of an instruction of which the table gives `nbits`: the bits above `nbits` are 0. -/
def tableBits (nbits w : Nat) : Nat := w % 2 ^ nbits

/-- Decoding a number of any size, refusing one that is no 40-bit word. -/
def decodeNat (n : Nat) : Except DecodeError Instr :=
  if n < 2 ^ 40 then .ok (decode (BitVec.ofNat 40 n)) else .error .longerThanTW

/-- The instruction the decoder reads from the bits `w`, numbered as spec/opcode_table.json numbers them (R90: one 40-bit
word, bit 0 its least significant). -/
def decodeTableWord (nbits w : Nat) : Option Instr :=
  match decodeNat (tableBits nbits w) with
  | .ok i => some i
  | .error _ => none

/-! ### Encoding (R90 to R93, R99) -/

/-- CTRL's write data: IRQ_EN, PULL_UP, VARIANT, CMD in bits 5, 4, 3:2, 1:0, the ignored bits 0 (R91). -/
def ctrlData (cmd var : BitVec 2) (pu ie : Bool) : Word :=
  0#26 ++ BitVec.ofBool ie ++ BitVec.ofBool pu ++ var ++ cmd

/-- STATUS's write data: the W1C mask in bits 9:7, the ignored bits 0 (R92). -/
def statusData (clrDone clrOvr clrCmderr : Bool) : Word :=
  0#22 ++ BitVec.ofBool clrCmderr ++ BitVec.ofBool clrOvr ++ BitVec.ofBool clrDone ++ 0#7

/-- The word of an instruction, every bit the block ignores 0. -/
def encode : Instr → TW
  | .ctrlNop var pu ie => mkTW true 0x00#7 (ctrlData 0b00#2 var pu ie)
  | .ctrlInit var pu ie => mkTW true 0x00#7 (ctrlData 0b01#2 var pu ie)
  | .ctrlReadDht11 pu ie => mkTW true 0x00#7 (ctrlData 0b10#2 0b00#2 pu ie)
  | .ctrlReadDht22 pu ie => mkTW true 0x00#7 (ctrlData 0b10#2 0b01#2 pu ie)
  | .ctrlReadSi7021 pu ie => mkTW true 0x00#7 (ctrlData 0b10#2 0b10#2 pu ie)
  | .ctrlReadRsvd => mkTW true 0x00#7 (ctrlData 0b10#2 0b11#2 false false)
  | .ctrlCmdRsvd => mkTW true 0x00#7 (ctrlData 0b11#2 0b00#2 false false)
  | .wrStatus clrDone clrOvr clrCmderr => mkTW true 0x04#7 (statusData clrDone clrOvr clrCmderr)
  | .wrRawLo => mkTW true 0x08#7 0#32
  | .wrRawHi => mkTW true 0x0C#7 0#32
  | .wrHumX10 => mkTW true 0x10#7 0#32
  | .wrTempX10 => mkTW true 0x14#7 0#32
  | .wrHumF32 => mkTW true 0x18#7 0#32
  | .wrTempF32 => mkTW true 0x1C#7 0#32
  | .rdCtrl => mkTW false 0x00#7 0#32
  | .rdStatus => mkTW false 0x04#7 0#32
  | .rdRawLo => mkTW false 0x08#7 0#32
  | .rdRawHi => mkTW false 0x0C#7 0#32
  | .rdHumX10 => mkTW false 0x10#7 0#32
  | .rdTempX10 => mkTW false 0x14#7 0#32
  | .rdHumF32 => mkTW false 0x18#7 0#32
  | .rdTempF32 => mkTW false 0x1C#7 0#32
  | .unmapped we addr => mkTW we addr 0#32

/-! ### The opcode table as data (R94) -/

/-- A row of spec/opcode_table.json. -/
structure OpcodeRow where
  mnemonic : String
  pattern : TW
  mask : TW
  deriving DecidableEq, Repr

/-- The word matches the row: `(TW & mask) = match` (R94). -/
abbrev OpcodeRow.Matches (r : OpcodeRow) (w : TW) : Prop := w &&& r.mask = r.pattern

/-- The CTRL write rows. -/
def ctrlRows : List OpcodeRow :=
  [ ⟨"CTRL.NOP", 0x8000000000#40, 0xFF00000003#40⟩,
    ⟨"CTRL.INIT", 0x8000000001#40, 0xFF00000003#40⟩,
    ⟨"CTRL.READ.DHT11", 0x8000000002#40, 0xFF0000000F#40⟩,
    ⟨"CTRL.READ.DHT22", 0x8000000006#40, 0xFF0000000F#40⟩,
    ⟨"CTRL.READ.SI7021", 0x800000000A#40, 0xFF0000000F#40⟩,
    ⟨"CTRL.READ.RSVD", 0x800000000E#40, 0xFF0000000F#40⟩,
    ⟨"CTRL.CMD.RSVD", 0x8000000003#40, 0xFF00000003#40⟩ ]

/-- The other write rows. -/
def writeRows : List OpcodeRow :=
  [ ⟨"WR.STATUS", 0x8400000000#40, 0xFF00000000#40⟩,
    ⟨"WR.RAW_LO", 0x8800000000#40, 0xFF00000000#40⟩,
    ⟨"WR.RAW_HI", 0x8C00000000#40, 0xFF00000000#40⟩,
    ⟨"WR.HUM_X10", 0x9000000000#40, 0xFF00000000#40⟩,
    ⟨"WR.TEMP_X10", 0x9400000000#40, 0xFF00000000#40⟩,
    ⟨"WR.HUM_F32", 0x9800000000#40, 0xFF00000000#40⟩,
    ⟨"WR.TEMP_F32", 0x9C00000000#40, 0xFF00000000#40⟩ ]

/-- The read rows. -/
def readRows : List OpcodeRow :=
  [ ⟨"RD.CTRL", 0x0000000000#40, 0xFF00000000#40⟩,
    ⟨"RD.STATUS", 0x0400000000#40, 0xFF00000000#40⟩,
    ⟨"RD.RAW_LO", 0x0800000000#40, 0xFF00000000#40⟩,
    ⟨"RD.RAW_HI", 0x0C00000000#40, 0xFF00000000#40⟩,
    ⟨"RD.HUM_X10", 0x1000000000#40, 0xFF00000000#40⟩,
    ⟨"RD.TEMP_X10", 0x1400000000#40, 0xFF00000000#40⟩,
    ⟨"RD.HUM_F32", 0x1800000000#40, 0xFF00000000#40⟩,
    ⟨"RD.TEMP_F32", 0x1C00000000#40, 0xFF00000000#40⟩ ]

/-- The 22 rows other than UNMAPPED, which is every word that matches none of these (R94). -/
def mappedRows : List OpcodeRow := ctrlRows ++ writeRows ++ readRows

/-- The mnemonic the table itself gives a word: that of the row it matches, else UNMAPPED (R94). -/
def tableMnemonic (w : TW) : String :=
  match mappedRows.find? (fun r => decide (r.Matches w)) with
  | some r => r.mnemonic
  | none => "UNMAPPED"

end Sys2Proof
end

