-- ==== Sys2Proof/Config.lean ====
section
/-! DEFINITION. What an implementation of the block fixes (the parameters of spec/00_scope.md R6 and R7), the input pins of
one edge (spec/10_state.md R20 to R23), and the free draw of those inputs (R12, spec/93_implementation_defined.md U3, U4, U15). -/

namespace Sys2Proof.Config

/-- The parameters of R6 that the block itself reads. -/
structure Params where
  tickUs : Nat
  tAck1 : Nat
  tAck2 : Nat
  tAck3 : Nat
  tBitLow : Nat
  tBitHigh : Nat
  resetUsSi7021 : Nat
  resetUsDht : Nat
  tcntW : Nat
  deriving DecidableEq, Repr

/-- The default values of R6. -/
def defaultParams : Params where
  tickUs := 2
  tAck1 := 40
  tAck2 := 88
  tAck3 := 88
  tBitLow := 65
  tBitHigh := 75
  resetUsSi7021 := 500
  resetUsDht := 20000
  tcntW := 16

/-- The legal parameter sets of R7; the model refuses every other. -/
abbrev Params.Legal (p : Params) : Prop :=
  1 ≤ p.tickUs ∧ 1 ≤ p.resetUsSi7021 ∧ 1 ≤ p.resetUsDht ∧
  p.tAck1 ≤ 2 ^ p.tcntW - 1 ∧ p.tAck2 ≤ 2 ^ p.tcntW - 1 ∧ p.tAck3 ≤ 2 ^ p.tcntW - 1 ∧
  p.tBitLow ≤ 2 ^ p.tcntW - 1 ∧ p.tBitHigh ≤ 2 ^ p.tcntW - 1 ∧
  p.resetUsSi7021 ≤ 2 ^ p.tcntW - 1 ∧ p.resetUsDht ≤ 2 ^ p.tcntW - 1

/-- The input pins of one rising edge of `clk` (R20 to R23). -/
structure EdgeIn where
  rst : Bool
  usTick : Bool
  busValid : Bool
  busWe : Bool
  busAddr : Offset
  busWdata : Word
  padIn : Bool
  padCfgReject : Bool
  deriving DecidableEq, Repr, Inhabited

/-- The free draw of R12: the inputs that the host, the line and the platform show in edge number `n`. Nothing constrains
it (log 1). -/
opaque freeInput : Nat → EdgeIn

end Sys2Proof.Config
end

