-- ==== Sys2Proof/Machine/State.lean ====
section
/-! DEFINITION. The block's state (spec/10_state.md R26 to R37), the reasons a step stops, and the state after reset (R48).
The block has no memory (spec/20_memory.md R70), so there is no memory field. -/

namespace Sys2Proof.Machine

/-- The sensor variant of a read: the closed tag of R1, R31. -/
inductive Variant where
  | dht11
  | dht22
  | si7021
  deriving DecidableEq, Repr

/-- The sequencer's states (R26); no other code is ever held. -/
inductive SeqState where
  | idle
  | reset
  | ack1
  | ack2
  | ack3
  | bitLow
  | bitHigh
  | done
  | fail
  deriving DecidableEq, Repr

/-- The failure reasons of R201; no other code is ever produced. -/
inductive ErrCode where
  | none
  | initAckMissing
  | initAckIncomplete
  | initAckTimeout
  | bitTimeout
  | checksumMismatch
  deriving DecidableEq, Repr

structure State where
  /-- R26, R38: the sequencer's state. -/
  state : SeqState
  /-- R27: ticks elapsed in the current phase; below 2^TCNT_W. -/
  tcnt : Nat
  /-- R28: index of the bit being read. -/
  bitidx : BitVec 6
  /-- R29: the current bit's low duration; below 2^TCNT_W. -/
  lowDur : Nat
  /-- R30: the BitSequence being built. -/
  frame : BitVec 40
  /-- R31: the variant of the read in progress. -/
  actVariant : Variant
  /-- R32: the pad pulls the line low. -/
  padOeR : Bool
  /-- R32: the pad is an open-drain output. -/
  padOdR : Bool
  /-- R32: the pad's pull-up is on. -/
  padPuR : Bool
  /-- R33: an INIT has succeeded. -/
  initDone : Bool
  /-- R33: the most recent INIT was rejected. -/
  cfgErr : Bool
  /-- R34: the last read completed with a valid checksum. -/
  valid : Bool
  /-- R34: the RawFrame. -/
  raw : BitVec 40
  /-- R34: humidity in tenths. -/
  humX10 : BitVec 16
  /-- R34: magnitude of the temperature in tenths. -/
  tempMag : BitVec 16
  /-- R34: the temperature is negative. -/
  tempNeg : Bool
  /-- R34: humidity, binary32. -/
  humF32 : Word
  /-- R34: temperature, binary32. -/
  tempF32 : Word
  /-- R35: the failure reason of the last read. -/
  errCode : ErrCode
  /-- R35: the bit index of a BitTimeout, else 0. -/
  errBit : BitVec 6
  /-- R36: sticky, a read finished. -/
  doneF : Bool
  /-- R36: sticky, a CTRL write arrived while busy. -/
  ovrF : Bool
  /-- R36: sticky, a CTRL write carried a reserved encoding. -/
  cmderrF : Bool
  /-- R37: the stored VARIANT field (3 can be stored). -/
  ctrlVariant : BitVec 2
  /-- R37: the stored PULL_UP field. -/
  ctrlPu : Bool
  /-- R37: the stored IRQ_EN field. -/
  ctrlIe : Bool
  /-- R22, R49: the combinational output bus_rdata of the edge just computed (log 2). -/
  busRdata : Word
  /-- R23, R49: the combinational output pad_cfg_req of the edge just computed (log 2). -/
  padCfgReq : Bool
  /-- R23, R49: the combinational output pad_cfg_pu of the edge just computed (log 2). -/
  padCfgPu : Bool
  /-- The model's own: the parameter set of R6; no step changes it (log 3). -/
  par : Config.Params
  /-- The model's own: the inputs of the coming edges, the next edge's first; where it is empty the next edge's inputs are
  a free draw (log 1). -/
  inputs : List Config.EdgeIn
  /-- The model's own: how many edges have passed, the argument of the free draw (log 1). -/
  edges : Nat
  deriving DecidableEq, Repr

/-- Why the machine stops with a fault. -/
inductive Fault where
  /-- R206, 93 U1: a READ of a legal variant, written while not busy, finds `init_done` = 0. Raised by the three READ
  commands. Safe: the spec gives no effect and no claim holds of a run that reaches it. -/
  | readBeforeInit
  deriving DecidableEq, Repr

/-- Why the machine refuses to step. -/
inductive Refusal where
  /-- An instruction whose meaning is not written yet; raised by `exec`'s arms only. Safe: nothing is claimed of it. -/
  | notModelled (mnemonic : String)
  /-- R7, 93 U6: the parameter set is outside the legal ranges. Raised by every edge of such a state. Safe: the spec
  excludes these sets. -/
  | illegalParameters
  deriving DecidableEq, Repr

/-- Every register at its value of R48, the outputs at 0 (R49, R230), the default parameters (R6). -/
def State.reset : State where
  state := .idle
  tcnt := 0
  bitidx := 0#6
  lowDur := 0
  frame := 0#40
  actVariant := .dht11
  padOeR := false
  padOdR := false
  padPuR := false
  initDone := false
  cfgErr := false
  valid := false
  raw := 0#40
  humX10 := 0#16
  tempMag := 0#16
  tempNeg := false
  humF32 := 0#32
  tempF32 := 0#32
  errCode := .none
  errBit := 0#6
  doneF := false
  ovrF := false
  cmderrF := false
  ctrlVariant := 0#2
  ctrlPu := false
  ctrlIe := false
  busRdata := 0#32
  padCfgReq := false
  padCfgPu := false
  par := Config.defaultParams
  inputs := []
  edges := 0

end Sys2Proof.Machine
end

