-- ==== Sys2Proof/Machine/Flags.lean ====
section
/-! DEFINITION. The flags: BUSY (spec/10_state.md R39), the merge of a sticky flag's set and clear requests
(spec/40_host_commands.md R110), and the two outputs made of flags (R49). -/

namespace Sys2Proof.Machine

/-- The busy states (R39). -/
def SeqState.isBusy : SeqState → Bool
  | .reset | .ack1 | .ack2 | .ack3 | .bitLow | .bitHigh => true
  | .idle | .done | .fail => false

/-- BUSY (R39). -/
def State.busy (s : State) : Bool := s.state.isBusy

/-- `f <- (s.f & ~clear_f) | set_f` (R110): a set in the same edge wins over a clear. -/
def mergeFlag (f clear set : Bool) : Bool := (f && !clear) || set

/-- `irq = ctrl_ie & done_f` (R49, R207). -/
def State.irq (s : State) : Bool := s.ctrlIe && s.doneF

/-- `cs_active = BUSY` (R49, R172). -/
def State.csActive (s : State) : Bool := s.busy

/-- Request to set `ovr_f` (R36, R204). -/
def setOvr (s : State) : State := { s with ovrF := mergeFlag s.ovrF false true }

/-- Request to set `cmderr_f` (R36, R205). -/
def setCmderr (s : State) : State := { s with cmderrF := mergeFlag s.cmderrF false true }

/-- Request to set `done_f` (R36, R171, R182). -/
def setDone (s : State) : State := { s with doneF := mergeFlag s.doneF false true }

/-- The W1C clears of a STATUS write (R92, R120). -/
def clearFlags (clrDone clrOvr clrCmderr : Bool) (s : State) : State :=
  { s with
    doneF := mergeFlag s.doneF clrDone false
    ovrF := mergeFlag s.ovrF clrOvr false
    cmderrF := mergeFlag s.cmderrF clrCmderr false }

end Sys2Proof.Machine
end

