-- ==== Sys2Proof/Machine/Operands.lean ====
section
/-! DEFINITION. The codes that registers carry (spec/10_state.md R26, R31, spec/60_exceptions.md R201), the value each host
register reads as (R41 to R46, spec/40_host_commands.md R122 to R130), and the parameters a state selects. -/

namespace Sys2Proof.Machine

/-- The variant's code (R31, R91). -/
def Variant.code : Variant → BitVec 2
  | .dht11 => 0b00#2
  | .dht22 => 0b01#2
  | .si7021 => 0b10#2

/-- STATUS.STATE (R26, R98). -/
def SeqState.code : SeqState → BitVec 4
  | .idle => 0#4
  | .reset => 1#4
  | .ack1 => 2#4
  | .ack2 => 3#4
  | .ack3 => 4#4
  | .bitLow => 5#4
  | .bitHigh => 6#4
  | .done => 7#4
  | .fail => 8#4

/-- STATUS.ERR_CODE (R201). -/
def ErrCode.code : ErrCode → BitVec 4
  | .none => 0#4
  | .initAckMissing => 1#4
  | .initAckIncomplete => 2#4
  | .initAckTimeout => 3#4
  | .bitTimeout => 4#4
  | .checksumMismatch => 5#4

/-- CTRL as it reads (R41, R122). -/
def ctrlValue (s : State) : Word :=
  0#26 ++ BitVec.ofBool s.ctrlIe ++ BitVec.ofBool s.ctrlPu ++ s.ctrlVariant ++ 0b00#2

/-- STATUS as it reads (R42, R123). -/
def statusValue (s : State) : Word :=
  0#10 ++ s.errBit ++ s.errCode.code ++ 0#1 ++ BitVec.ofBool s.cfgErr ++ BitVec.ofBool s.cmderrF
    ++ BitVec.ofBool s.ovrF ++ BitVec.ofBool s.doneF ++ BitVec.ofBool s.valid ++ BitVec.ofBool s.initDone
    ++ BitVec.ofBool s.busy ++ s.state.code

/-- RAW_LO as it reads: b3, b2, b1, b0 (R43, R124). -/
def rawLoValue (s : State) : Word :=
  s.raw.extractLsb' 8 8 ++ s.raw.extractLsb' 16 8 ++ s.raw.extractLsb' 24 8 ++ s.raw.extractLsb' 32 8

/-- RAW_HI as it reads: the checksum byte (R43, R125). -/
def rawHiValue (s : State) : Word := 0#24 ++ s.raw.extractLsb' 0 8

/-- HUM_X10 as it reads (R44, R126). -/
def humX10Value (s : State) : Word := 0#16 ++ s.humX10

/-- TEMP_X10 as it reads: sign in bit 16, magnitude below (R45, R127). -/
def tempX10Value (s : State) : Word := 0#15 ++ BitVec.ofBool s.tempNeg ++ s.tempMag

/-- HUM_F32 as it reads (R46, R128). -/
def humF32Value (s : State) : Word := s.humF32

/-- TEMP_F32 as it reads (R46, R129). -/
def tempF32Value (s : State) : Word := s.tempF32

/-- What a read of each offset of the window returns (R40, R72, R73, R122 to R130). -/
def readValue (s : State) (a : Offset) : Word :=
  if a = 0x00#7 then ctrlValue s
  else if a = 0x04#7 then statusValue s
  else if a = 0x08#7 then rawLoValue s
  else if a = 0x0C#7 then rawHiValue s
  else if a = 0x10#7 then humX10Value s
  else if a = 0x14#7 then tempX10Value s
  else if a = 0x18#7 then humF32Value s
  else if a = 0x1C#7 then tempF32Value s
  else 0#32

/-- RESET_LEN(v), the reset pulse's length in ticks (R162). -/
def resetLen (p : Config.Params) (v : Variant) : Nat :=
  match v with
  | .si7021 => p.resetUsSi7021
  | .dht11 | .dht22 => p.resetUsDht

end Sys2Proof.Machine
end

