-- ==== Sys2Proof/Machine/Ops.lean ====
section
/-! DEFINITION. The named operations over the registers: the edge's inputs, the bus response, the pad
(spec/41_gpio_timing.md R140, R141), READ acceptance and failure entry (spec/40_host_commands.md R117,
spec/42_frame_decoder.md R171), the CTRL acceptance checks (R111) and reset (R230). -/

namespace Sys2Proof.Machine

/-- The inputs of the coming edge: the first listed ones, else the free draw (R12; log 1). -/
def edgeInput (s : State) : Config.EdgeIn :=
  match s.inputs with
  | e :: _ => e
  | [] => Config.freeInput s.edges

/-- The transaction word an edge carries, if any (R22, R90). -/
def busTransaction (e : Config.EdgeIn) : Option TW :=
  if e.busValid then some (mkTW e.busWe e.busAddr e.busWdata) else none

/-- The edge's combinational outputs of an edge that reads `v` (0 for a write or no transaction) and accepts no INIT
(R49, R110). -/
def respond (v : Word) (s : State) : State :=
  { s with busRdata := v, padCfgReq := false, padCfgPu := false }

/-- The edge is over: its inputs are used up (log 1). -/
def advance (s : State) : State :=
  { s with inputs := s.inputs.tail, edges := s.edges + 1 }

/-- `Drive(level)`: 0 pulls the line low, 1 releases it; the block never drives it high (R141). -/
def drive (level : Bool) (s : State) : State := { s with padOeR := !level }

/-- `configure` with the platform's answer (R140): open-drain, released, the pull-up as asked, or the reset
configuration when the platform rejects. -/
def configurePad (pu reject : Bool) (s : State) : State :=
  if reject then { s with padOdR := false, padPuR := false, padOeR := false }
  else { s with padOdR := true, padPuR := pu, padOeR := false }

/-- Entering the failed state, the block's one exception entry (R171, R210). -/
def failEntry (code : ErrCode) (bit : BitVec 6) (s : State) : State :=
  setDone { drive true s with state := .fail, errCode := code, errBit := bit, tcnt := 0 }

/-- READ acceptance (R117), which also is how FAIL and DONE are left (R211): the previous read's every trace is cleared. -/
def readAccept (v : Variant) (s : State) : State :=
  { drive false s with
    actVariant := v
    state := .reset, tcnt := 0, bitidx := 0#6, lowDur := 0, frame := 0#40
    valid := false, raw := 0#40, humX10 := 0#16, tempMag := 0#16, tempNeg := false
    humF32 := 0#32, tempF32 := 0#32
    errCode := .none, errBit := 0#6
    doneF := mergeFlag s.doneF true false }

/-- INIT acceptance (R113): the request goes to the platform and its answer is taken in the same edge. -/
def initAccept (pu reject : Bool) (s : State) : State :=
  { configurePad pu reject s with
    padCfgReq := true, padCfgPu := pu
    initDone := !reject, cfgErr := reject }

/-- Every accepted CTRL write stores its three fields (R37, R111). -/
def storeCtrl (var : BitVec 2) (pu ie : Bool) (s : State) : State :=
  { s with ctrlVariant := var, ctrlPu := pu, ctrlIe := ie }

/-- What a CTRL write asks for, after its CMD and VARIANT are read (R91). -/
inductive CtrlCommand where
  | nop
  | init
  | read (v : Variant)
  | reserved
  deriving DecidableEq, Repr

/-- A CTRL write: the checks of R111 in their order, then acceptance. -/
def ctrlWrite (cmd : CtrlCommand) (var : BitVec 2) (pu ie : Bool) (s : State) : Host.Outcome State Fault Refusal :=
  let s₀ := respond 0#32 s
  if s.busy then .next (setOvr s₀)
  else match cmd with
    | .reserved => .next (setCmderr s₀)
    | .nop => .next (storeCtrl var pu ie s₀)
    | .init => .next (initAccept pu (edgeInput s).padCfgReject (storeCtrl var pu ie s₀))
    | .read v => if s.initDone then .next (readAccept v (storeCtrl var pu ie s₀)) else .fault .readBeforeInit

/-- A reset edge: every register takes its reset value (R48, R230); the parameters stay, and the edge's inputs are used
up. -/
def resetEdge (s : State) : State :=
  { State.reset with par := s.par, inputs := s.inputs.tail, edges := s.edges + 1 }

end Sys2Proof.Machine
end

