-- ==== Sys2Proof/Machine/CtrlCommands.lean ====
section
/-! DEFINITION. The host part of the CTRL writes (spec/40_host_commands.md R111 to R119). -/

namespace Sys2Proof.Machine

/-- CTRL.NOP (R112). -/
def execCtrlNop (var : BitVec 2) (pu ie : Bool) (s : State) : Host.Outcome State Fault Refusal :=
  ctrlWrite .nop var pu ie s

/-- CTRL.INIT (R113). -/
def execCtrlInit (var : BitVec 2) (pu ie : Bool) (s : State) : Host.Outcome State Fault Refusal :=
  ctrlWrite .init var pu ie s

/-- CTRL.READ.DHT11 (R114). -/
def execCtrlReadDht11 (pu ie : Bool) (s : State) : Host.Outcome State Fault Refusal :=
  ctrlWrite (.read .dht11) (Variant.code .dht11) pu ie s

/-- CTRL.READ.DHT22 (R115). -/
def execCtrlReadDht22 (pu ie : Bool) (s : State) : Host.Outcome State Fault Refusal :=
  ctrlWrite (.read .dht22) (Variant.code .dht22) pu ie s

/-- CTRL.READ.SI7021 (R116). -/
def execCtrlReadSi7021 (pu ie : Bool) (s : State) : Host.Outcome State Fault Refusal :=
  ctrlWrite (.read .si7021) (Variant.code .si7021) pu ie s

/-- CTRL.READ.RSVD (R118): no operand is used. -/
def execCtrlReadRsvd (s : State) : Host.Outcome State Fault Refusal :=
  ctrlWrite .reserved 0b11#2 false false s

/-- CTRL.CMD.RSVD (R119): no operand is used. -/
def execCtrlCmdRsvd (s : State) : Host.Outcome State Fault Refusal :=
  ctrlWrite .reserved 0b00#2 false false s

end Sys2Proof.Machine
end

