-- ==== Sys2Proof/Machine/RegReads.lean ====
section
/-! DEFINITION. The host part of the register reads (spec/40_host_commands.md R122 to R129): the value is computed from the
state before the edge and no register changes (R74, R110). -/

namespace Sys2Proof.Machine

/-- RD.CTRL (R122). -/
def execRdCtrl (s : State) : Host.Outcome State Fault Refusal := .next (respond (ctrlValue s) s)

/-- RD.STATUS (R123). -/
def execRdStatus (s : State) : Host.Outcome State Fault Refusal := .next (respond (statusValue s) s)

/-- RD.RAW_LO (R124). -/
def execRdRawLo (s : State) : Host.Outcome State Fault Refusal := .next (respond (rawLoValue s) s)

/-- RD.RAW_HI (R125). -/
def execRdRawHi (s : State) : Host.Outcome State Fault Refusal := .next (respond (rawHiValue s) s)

/-- RD.HUM_X10 (R126). -/
def execRdHumX10 (s : State) : Host.Outcome State Fault Refusal := .next (respond (humX10Value s) s)

/-- RD.TEMP_X10 (R127). -/
def execRdTempX10 (s : State) : Host.Outcome State Fault Refusal := .next (respond (tempX10Value s) s)

/-- RD.HUM_F32 (R128). -/
def execRdHumF32 (s : State) : Host.Outcome State Fault Refusal := .next (respond (humF32Value s) s)

/-- RD.TEMP_F32 (R129). -/
def execRdTempF32 (s : State) : Host.Outcome State Fault Refusal := .next (respond (tempF32Value s) s)

end Sys2Proof.Machine
end

