-- ==== Sys2Proof/Machine/RegWrites.lean ====
section
/-! DEFINITION. The host part of the STATUS write (spec/40_host_commands.md R120) and of the writes to the read-only
result registers, which change nothing (R121). -/

namespace Sys2Proof.Machine

/-- WR.STATUS (R120): accepted while busy too. -/
def execWrStatus (clrDone clrOvr clrCmderr : Bool) (s : State) : Host.Outcome State Fault Refusal :=
  .next (clearFlags clrDone clrOvr clrCmderr (respond 0#32 s))

/-- A write that changes no register (R73, R121, R130). -/
def ignoredWrite (s : State) : Host.Outcome State Fault Refusal := .next (respond 0#32 s)

/-- WR.RAW_LO (R121). -/
def execWrRawLo (s : State) : Host.Outcome State Fault Refusal := ignoredWrite s

/-- WR.RAW_HI (R121). -/
def execWrRawHi (s : State) : Host.Outcome State Fault Refusal := ignoredWrite s

/-- WR.HUM_X10 (R121). -/
def execWrHumX10 (s : State) : Host.Outcome State Fault Refusal := ignoredWrite s

/-- WR.TEMP_X10 (R121). -/
def execWrTempX10 (s : State) : Host.Outcome State Fault Refusal := ignoredWrite s

/-- WR.HUM_F32 (R121). -/
def execWrHumF32 (s : State) : Host.Outcome State Fault Refusal := ignoredWrite s

/-- WR.TEMP_F32 (R121). -/
def execWrTempF32 (s : State) : Host.Outcome State Fault Refusal := ignoredWrite s

end Sys2Proof.Machine
end

