-- ==== Sys2Proof/Machine/Unmapped.lean ====
section
/-! DEFINITION. The host part of a transaction no other row matches (spec/40_host_commands.md R130). -/

namespace Sys2Proof.Machine

/-- UNMAPPED: a read returns 0, a write changes nothing (R72, R73, R130). -/
def execUnmapped (_we : Bool) (_addr : Offset) (s : State) : Host.Outcome State Fault Refusal :=
  .next (respond 0#32 s)

end Sys2Proof.Machine
end

