-- ==== Sys2Proof/Machine/Dispatch.lean ====
section
/-! DEFINITION. The meaning of every transaction: the host part of its edge (spec/40_host_commands.md R110). -/

namespace Sys2Proof.Machine

def exec (i : Instr) (s : State) : Host.Outcome State Fault Refusal :=
  match i with
  | .ctrlNop var pu ie => Sys2Proof.Machine.execCtrlNop var pu ie s
  | .ctrlInit var pu ie => Sys2Proof.Machine.execCtrlInit var pu ie s
  | .ctrlReadDht11 pu ie => Sys2Proof.Machine.execCtrlReadDht11 pu ie s
  | .ctrlReadDht22 pu ie => Sys2Proof.Machine.execCtrlReadDht22 pu ie s
  | .ctrlReadSi7021 pu ie => Sys2Proof.Machine.execCtrlReadSi7021 pu ie s
  | .ctrlReadRsvd => Sys2Proof.Machine.execCtrlReadRsvd s
  | .ctrlCmdRsvd => Sys2Proof.Machine.execCtrlCmdRsvd s
  | .wrStatus clrDone clrOvr clrCmderr => Sys2Proof.Machine.execWrStatus clrDone clrOvr clrCmderr s
  | .wrRawLo => Sys2Proof.Machine.execWrRawLo s
  | .wrRawHi => Sys2Proof.Machine.execWrRawHi s
  | .wrHumX10 => Sys2Proof.Machine.execWrHumX10 s
  | .wrTempX10 => Sys2Proof.Machine.execWrTempX10 s
  | .wrHumF32 => Sys2Proof.Machine.execWrHumF32 s
  | .wrTempF32 => Sys2Proof.Machine.execWrTempF32 s
  | .rdCtrl => Sys2Proof.Machine.execRdCtrl s
  | .rdStatus => Sys2Proof.Machine.execRdStatus s
  | .rdRawLo => Sys2Proof.Machine.execRdRawLo s
  | .rdRawHi => Sys2Proof.Machine.execRdRawHi s
  | .rdHumX10 => Sys2Proof.Machine.execRdHumX10 s
  | .rdTempX10 => Sys2Proof.Machine.execRdTempX10 s
  | .rdHumF32 => Sys2Proof.Machine.execRdHumF32 s
  | .rdTempF32 => Sys2Proof.Machine.execRdTempF32 s
  | .unmapped we addr => Sys2Proof.Machine.execUnmapped we addr s

end Sys2Proof.Machine
end

