-- ==== Sys2Proof/Machine/Timing.lean ====
section
/-! DEFINITION. The timing monitor (spec/41_gpio_timing.md R142 to R149). -/

namespace Sys2Proof.Machine

/-- What one tick of a wait yields (R10, R144). -/
inductive AwaitResult where
  | pending (t : Nat)
  | seen (d : Nat)
  | timeout
  deriving DecidableEq, Repr

/-- LAST(T), the last sample point not after T (R144). -/
def lastSample (tickUs timeout : Nat) : Nat := timeout / tickUs * tickUs

/-- The tick `t` of a wait is one of its sample points (R144, R145). -/
def isSample (tickUs timeout t : Nat) : Bool := decide (t % tickUs = 0 ∧ t ≤ timeout)

/-- `AWAIT(T, L)`: one tick of the wait for `level`, with `tcnt` ticks already counted and the line showing `padIn`
(R144). -/
def await (tickUs timeout : Nat) (level padIn : Bool) (tcnt : Nat) : AwaitResult :=
  let t := tcnt + 1
  if isSample tickUs timeout t && (padIn == level) then .seen t
  else if lastSample tickUs timeout ≤ t then .timeout
  else .pending t

end Sys2Proof.Machine
end

