-- ==== Sys2Proof/Machine/ValueAssembler.lean ====
section
/-! DEFINITION. The value assembler (spec/43_value_assembler.md R180 to R189): pack, validate, convert, the binary32
results, and completion. -/

namespace Sys2Proof.Machine

/-- The RawFrame's five bytes (R180). -/
structure RawFrame where
  b0 : Byte
  b1 : Byte
  b2 : Byte
  b3 : Byte
  checksum : Byte
  deriving DecidableEq, Repr

/-- `Pack(f)`: the first bit received is bit 7 of b0 (R180, R76). -/
def pack (f : BitVec 40) : RawFrame where
  b0 := f.extractLsb' 32 8
  b1 := f.extractLsb' 24 8
  b2 := f.extractLsb' 16 8
  b3 := f.extractLsb' 8 8
  checksum := f.extractLsb' 0 8

/-- `Validate`: the exact sum modulo 256 is the checksum byte (R181). -/
def validate (r : RawFrame) : Bool :=
  (r.b0.toNat + r.b1.toNat + r.b2.toNat + r.b3.toNat) % 256 == r.checksum.toNat

/-- What `Convert` returns: tenths of humidity, the temperature's magnitude in tenths, its sign. -/
structure Reading where
  humX10 : BitVec 16
  tempMag : BitVec 16
  tempNeg : Bool
  deriving DecidableEq, Repr

/-- DHT11: integer plus tenths, no sign (R183, R184). -/
def convertDht11 (r : RawFrame) : Reading where
  humX10 := BitVec.ofNat 16 (10 * r.b0.toNat + r.b1.toNat)
  tempMag := BitVec.ofNat 16 (10 * r.b2.toNat + r.b3.toNat)
  tempNeg := false

/-- DHT22 and SI7021: 16-bit humidity, sign-magnitude temperature (R185, R186). -/
def convertDht22 (r : RawFrame) : Reading where
  humX10 := r.b0 ++ r.b1
  tempMag := (r.b2 &&& 0x7F#8) ++ r.b3
  tempNeg := r.b2.getLsbD 7

/-- `Convert` (R183 to R186). -/
def convert (r : RawFrame) (v : Variant) : Reading :=
  match v with
  | .dht11 => convertDht11 r
  | .dht22 | .si7021 => convertDht22 r

/-- The natural number nearest to `n / d`, ties to even. -/
def divNearestEven (n d : Nat) : Nat :=
  let q := n / d
  let r := n % d
  if d < 2 * r ∨ (2 * r = d ∧ q % 2 = 1) then q + 1 else q

/-- `RNE32(n / d)` for `d > 0`: the binary32 pattern nearest to the exact quotient, ties to even (R187). The quotient is
taken in units of 2^-149, the smallest positive binary32 step; `sh` is how many low bits of that integer a 24-bit
significand drops. A quotient past the largest finite number gives infinity, as binary32 rounding has it (no value of
the block reaches that, R188). -/
def rne32 (n d : Nat) : Word :=
  let scaled := n * 2 ^ 149
  let sh := Nat.log2 (scaled / d) - 23
  let m := divNearestEven scaled (d * 2 ^ sh)
  BitVec.ofNat 32 (min (sh * 2 ^ 23 + m) 0x7F800000)

/-- `Complete(f)`: run in the edge that decodes bit 39 (R170, R182). -/
def complete (f : BitVec 40) (s : State) : State :=
  let r := pack f
  if validate r then
    let v := convert r s.actVariant
    setDone { s with
      frame := f
      raw := f, valid := true
      humX10 := v.humX10, tempMag := v.tempMag, tempNeg := v.tempNeg
      humF32 := rne32 v.humX10.toNat 10
      tempF32 := BitVec.ofBool v.tempNeg ++ (rne32 v.tempMag.toNat 10).extractLsb' 0 31
      state := .done }
  else failEntry .checksumMismatch 0#6 { s with frame := f }

end Sys2Proof.Machine
end

