-- ==== Sys2Proof/Machine/FrameDecoder.lean ====
section
/-! DEFINITION. The frame decoder's tick rules (spec/42_frame_decoder.md R160 to R171). Each reads the registers and, at a
sample point, the line. -/

namespace Sys2Proof.Machine

/-- The pulse-width comparator: strictly longer high phase is a 1 (R168). -/
def compareWidths (low high : Nat) : Bool := decide (low < high)

/-- `{s.frame[38:0], bit}`: a decoded bit enters at bit 0 (R167, R169). -/
def shiftIn (f : BitVec 40) (bit : Bool) : BitVec 40 := f.extractLsb' 0 39 ++ BitVec.ofBool bit

/-- RESET: count the reset pulse, then release the line and wait for the acknowledgment (R161). -/
def tickReset (s : State) : State :=
  let t := s.tcnt + 1
  if resetLen s.par s.actVariant ≤ t then { drive true s with state := .ack1, tcnt := 0 }
  else { s with tcnt := t }

/-- One tick of a waiting state: pending counts, `onSeen` and `onTimeout` end the wait (R144, R160). -/
def waitTick (timeout : Nat) (level padIn : Bool) (onSeen : Nat → State → State) (onTimeout : State → State)
    (s : State) : State :=
  match await s.par.tickUs timeout level padIn s.tcnt with
  | .seen d => onSeen d s
  | .timeout => onTimeout s
  | .pending t => { s with tcnt := t }

/-- ACK1: wait for the sensor's acknowledge low (R163). -/
def tickAck1 (padIn : Bool) (s : State) : State :=
  waitTick s.par.tAck1 false padIn (fun _ s => { s with state := .ack2, tcnt := 0 })
    (failEntry .initAckMissing 0#6) s

/-- ACK2: wait for the acknowledge high (R164). -/
def tickAck2 (padIn : Bool) (s : State) : State :=
  waitTick s.par.tAck2 true padIn (fun _ s => { s with state := .ack3, tcnt := 0 })
    (failEntry .initAckIncomplete 0#6) s

/-- ACK3: wait for the end of the preamble (R165). -/
def tickAck3 (padIn : Bool) (s : State) : State :=
  waitTick s.par.tAck3 false padIn (fun _ s => { s with state := .bitLow, bitidx := 0#6, tcnt := 0 })
    (failEntry .initAckTimeout 0#6) s

/-- BIT_LOW: measure the low phase (R166). -/
def tickBitLow (padIn : Bool) (s : State) : State :=
  waitTick s.par.tBitLow true padIn (fun d s => { s with lowDur := d, state := .bitHigh, tcnt := 0 })
    (failEntry .bitTimeout s.bitidx) s

/-- The high phase has been measured: decode the bit, then go to the next one or complete (R167, R170). -/
def bitDecoded (high : Nat) (s : State) : State :=
  let f := shiftIn s.frame (compareWidths s.lowDur high)
  if s.bitidx = 39#6 then complete f s
  else { s with frame := f, bitidx := s.bitidx + 1#6, state := .bitLow, tcnt := 0 }

/-- BIT_HIGH: measure the high phase (R167). -/
def tickBitHigh (padIn : Bool) (s : State) : State :=
  waitTick s.par.tBitHigh false padIn bitDecoded (failEntry .bitTimeout s.bitidx) s

/-- The tick rule of the current state; the resting states have none (R160, R176). -/
def tick (padIn : Bool) (s : State) : State :=
  match s.state with
  | .reset => tickReset s
  | .ack1 => tickAck1 padIn s
  | .ack2 => tickAck2 padIn s
  | .ack3 => tickAck3 padIn s
  | .bitLow => tickBitLow padIn s
  | .bitHigh => tickBitHigh padIn s
  | .idle | .done | .fail => s

end Sys2Proof.Machine
end

