-- ==== Sys2Proof/Machine/Edge.lean ====
section
/-! DEFINITION. One edge of `clk` (spec/40_host_commands.md R110). The host part runs first; the tick part acts only if the
state BEFORE the edge was busy, and in that case the host part has written no field but the sticky flags (R111), so the
tick part computes what it would compute from the state before the edge, and a flag it sets wins over a clear. -/

namespace Sys2Proof.Machine

/-- The tick part of an edge whose state before was `s` and whose host part gave `h`, and the end of the edge. -/
def edgeTail (s h : State) : State :=
  let e := edgeInput s
  advance (if e.usTick && s.busy then tick e.padIn h else h)

/-- One edge, `host` being the host part of a transaction word. -/
def edge (host : TW → State → Host.Outcome State Fault Refusal) (s : State) : Host.Outcome State Fault Refusal :=
  if s.par.Legal then
    if (edgeInput s).rst then .next (resetEdge s)
    else match busTransaction (edgeInput s) with
      | none => .next (edgeTail s (respond 0#32 s))
      | some w =>
        match host w s with
        | .next h => .next (edgeTail s h)
        | .fault f => .fault f
        | .refused r => .refused r
  else .refused .illegalParameters

/-- The edge that carries the transaction word `w` and nothing else of note: no reset, no tick, the line high, the
platform rejecting nothing (log 4). -/
def quietEdge (w : TW) : Config.EdgeIn where
  rst := false
  usTick := false
  busValid := true
  busWe := twWe w
  busAddr := twAddr w
  busWdata := twData w
  padIn := true
  padCfgReject := false

/-- The word `w` on the bus in the coming edge: the listed edge's other pins stay, but that it is no reset edge (log 4). -/
def placeWord (w : TW) (s : State) : State :=
  match s.inputs with
  | e :: es =>
    { s with inputs :=
      { quietEdge w with usTick := e.usTick, padIn := e.padIn, padCfgReject := e.padCfgReject } :: es }
  | [] => { s with inputs := [quietEdge w] }

end Sys2Proof.Machine
end

