-- ==== Sys2Proof/Machine/Step.lean ====
section
/-! DEFINITION. The machine's step: one rising edge of `clk` (spec/00_scope.md R11, spec/40_host_commands.md R110). -/

namespace Sys2Proof.Machine

/-- One edge: the transaction on the bus, if any, is decoded and executed, and the tick part follows. -/
def step (s : State) : Host.Outcome State Fault Refusal :=
  edge (fun w s => exec (decode w) s) s

/-- The instruction whose bits are `w` on the bus in the coming edge (log 4). -/
def State.withFetchWord (s : State) (nbits w : Nat) : State :=
  placeWord (BitVec.ofNat 40 (tableBits nbits w)) s

end Sys2Proof.Machine
end

