-- ==== Sys2Proof/Machine/Assembler.lean ====
section
/-! DEFINITION. The assembler forms and pseudo-instructions of spec/30_encoding.md R99 and R100: the words and edges a host
issues. None is an encoding of its own. -/

namespace Sys2Proof.Machine

/-- `CTRL.<cmd>`'s write data: `imm = (ie<<5) | (pu<<4) | (var<<2) | cmd` (R99). -/
def ctrlImm (cmd var : BitVec 2) (pu ie : Bool) : Word :=
  ((BitVec.ofBool ie).setWidth 32 <<< 5) ||| ((BitVec.ofBool pu).setWidth 32 <<< 4)
    ||| (var.setWidth 32 <<< 2) ||| cmd.setWidth 32

/-- The variant names of the assembler, `<V>` (R99). -/
inductive AsmVariant where
  | dht11
  | dht22
  | si7021
  | rsvd
  deriving DecidableEq, Repr

/-- The 2-bit code a variant name assembles to (R91, R99). -/
def asmVariantCode (v : AsmVariant) : BitVec 2 :=
  match v with
  | .dht11 => Variant.code .dht11
  | .dht22 => Variant.code .dht22
  | .si7021 => Variant.code .si7021
  | .rsvd => 0b11#2

/-- `WR <offset>, <imm32>` (R99). -/
def asmWr (a : Offset) (imm : Word) : TW := mkTW true a imm

/-- `RD <offset>` (R99). -/
def asmRd (a : Offset) : TW := mkTW false a 0#32

/-- `ACKDONE` = `WR STATUS, 0x00000080` (R100). -/
def asmAckDone : TW := asmWr 0x04#7 0x00000080#32

/-- `CLRFLAGS` = `WR STATUS, 0x00000380` (R100). -/
def asmClrFlags : TW := asmWr 0x04#7 0x00000380#32

/-- `CTRL.<cmd> var=<V>, pu=<0|1>, ie=<0|1>`; an omitted field is 0, and variant code 0 is DHT11's (R99). -/
def asmCtrl (cmd : BitVec 2) (v : AsmVariant := .dht11) (pu : Bool := false) (ie : Bool := false) : TW :=
  asmWr 0x00#7 (ctrlImm cmd (asmVariantCode v) pu ie)

/-- `READX V` = `CTRL.READ var=V, ie=1` (R100), RSVD among the names. -/
def asmReadX (v : AsmVariant) : TW := asmCtrl 0b10#2 v (ie := true)

/-- What the other agents show in the edge `j` edges from now: as listed, else the free draw (R12; log 1). -/
def edgeAhead (s : State) (j : Nat) : Config.EdgeIn := (s.inputs[j]?).getD (Config.freeInput (s.edges + j))

/-- An edge whose other pins are `e`'s and that carries no transaction. -/
def idleEdge (e : Config.EdgeIn) : Config.EdgeIn := { e with busValid := false }

/-- `WAIT n` = n edges with `bus_valid` = 0 (R100): the host issues nothing in the next `n` edges, whatever the other agents
show in them; the edges after them are as before. -/
def asmWait (n : Nat) (s : State) : State :=
  { s with inputs := (List.range n).map (fun j => idleEdge (edgeAhead s j)) ++ s.inputs.drop n }

/-- The edge `e` with the transaction word `w` on the bus, the other pins as they are. -/
def carry (w : TW) (e : Config.EdgeIn) : Config.EdgeIn :=
  { e with busValid := true, busWe := twWe w, busAddr := twAddr w, busWdata := twData w }

/-- The host issues `w` in the coming edge, whatever the other agents show in it. -/
def asmIssue (w : TW) (s : State) : State :=
  { s with inputs := carry w (edgeAhead s 0) :: s.inputs.drop 1 }

/-- `POLL`'s test on the value an edge read from STATUS: bit 4 (BUSY) = 0 ends the host's loop (R100). -/
def pollEnds (s : State) : Bool := !s.busRdata.getLsbD 4

/-- `POLL`, at most `n` rounds of it: `RD STATUS` on the bus in every edge until the value read has BUSY = 0 (R100; log 12).
`none`: the rounds ran out, or the machine stopped. -/
def poll : Nat → State → Option State
  | 0, _ => none
  | n + 1, s =>
    match step (asmIssue (asmRd 0x04#7) s) with
    | .next t => if pollEnds t then some t else poll n t
    | .fault _ => none
    | .refused _ => none

end Sys2Proof.Machine
end

