-- ==== Sys2Proof/Machine/System.lean ====
section
/-! DEFINITION. Several blocks in one system (spec/20_memory.md R70, R83, spec/60_exceptions.md R215): one block per pin, each
with its own window at its own base address, sharing only `clk`, `rst` and `us_tick`. The parameters BASE and N_INSTANCES of
spec/00_scope.md R6 are each slot's `base` and the number of slots. -/

namespace Sys2Proof.Machine

/-- One block in the system's address map. -/
structure Slot where
  base : Nat
  block : State
  deriving DecidableEq, Repr

/-- What the whole system shows in one edge: reset and time base shared, at most one bus transaction, at an absolute
byte address. -/
structure SystemIn where
  rst : Bool
  usTick : Bool
  busValid : Bool
  busWe : Bool
  busAddr : Nat
  busWdata : Word
  deriving DecidableEq, Repr

/-- The pad inputs of one block. -/
structure PadIn where
  padIn : Bool
  padCfgReject : Bool
  deriving DecidableEq, Repr

/-- The absolute address lies in the 128-byte window at `base` (R70). -/
def inWindow (base a : Nat) : Bool := decide (base ≤ a ∧ a < base + 128)

/-- The pins one block sees: the bus only if the address is in its window, at the offset from its base (R70, R83). -/
def slotInput (base : Nat) (e : SystemIn) (p : PadIn) : Config.EdgeIn where
  rst := e.rst
  usTick := e.usTick
  busValid := e.busValid && inWindow base e.busAddr
  busWe := e.busWe
  busAddr := BitVec.ofNat 7 (e.busAddr - base)
  busWdata := e.busWdata
  padIn := p.padIn
  padCfgReject := p.padCfgReject

/-- One edge of one block of the system. -/
def slotStep (e : SystemIn) (p : PadIn) (b : Slot) : Host.Outcome State Fault Refusal :=
  step { b.block with inputs := [slotInput b.base e p] }

/-- One edge of the whole system, block by block (R215); the pads are given in the slots' order. -/
def systemStep (e : SystemIn) (pads : List PadIn) (slots : List Slot) : List (Host.Outcome State Fault Refusal) :=
  List.zipWith (fun p b => slotStep e p b) pads slots

end Sys2Proof.Machine
end

