-- ==== Sys2Proof/Machine/Outputs.lean ====
section
/-! DEFINITION. The block's output pins after an edge (spec/10_state.md R22 to R24, R49). -/

namespace Sys2Proof.Machine

/-- The output pins. -/
structure Pins where
  padOe : Bool
  padOd : Bool
  padPu : Bool
  irq : Bool
  csActive : Bool
  padCfgReq : Bool
  padCfgPu : Bool
  busRdata : Word
  deriving DecidableEq, Repr

/-- The output equations of R49: the first five of the registers after the edge, the last three of the edge just
computed. -/
def outputs (s : State) : Pins where
  padOe := s.padOeR
  padOd := s.padOdR
  padPu := s.padPuR
  irq := s.irq
  csActive := s.csActive
  padCfgReq := s.padCfgReq
  padCfgPu := s.padCfgPu
  busRdata := s.busRdata

end Sys2Proof.Machine
end

