-- ==== Sys2Proof/Safety.lean ====
section
/-! DEFINITION. What counts as a safe state and a safe run, in the terms the statements use: the invariants of
spec/10_state.md R51 and R27, the registers a transaction may touch, and the tick counts of spec/42_frame_decoder.md R174. -/

namespace Sys2Proof

/-! ### Classes of transactions -/

/-- A CTRL write: WE = 1, ADDR = 0x00 (R111). -/
def Instr.isCtrl : Instr → Bool
  | .ctrlNop _ _ _ | .ctrlInit _ _ _ | .ctrlReadDht11 _ _ | .ctrlReadDht22 _ _ | .ctrlReadSi7021 _ _
  | .ctrlReadRsvd | .ctrlCmdRsvd => true
  | .wrStatus _ _ _ | .wrRawLo | .wrRawHi | .wrHumX10 | .wrTempX10 | .wrHumF32 | .wrTempF32
  | .rdCtrl | .rdStatus | .rdRawLo | .rdRawHi | .rdHumX10 | .rdTempX10 | .rdHumF32 | .rdTempF32 | .unmapped _ _ => false

/-- The variant of a READ command of a legal variant (R114 to R116). -/
def Instr.readVariant : Instr → Option Machine.Variant
  | .ctrlReadDht11 _ _ => some .dht11
  | .ctrlReadDht22 _ _ => some .dht22
  | .ctrlReadSi7021 _ _ => some .si7021
  | .ctrlNop _ _ _ | .ctrlInit _ _ _ | .ctrlReadRsvd | .ctrlCmdRsvd
  | .wrStatus _ _ _ | .wrRawLo | .wrRawHi | .wrHumX10 | .wrTempX10 | .wrHumF32 | .wrTempF32
  | .rdCtrl | .rdStatus | .rdRawLo | .rdRawHi | .rdHumX10 | .rdTempX10 | .rdHumF32 | .rdTempF32 | .unmapped _ _ => none

/-- An INIT command (R113). -/
def Instr.isInit : Instr → Bool
  | .ctrlInit _ _ _ => true
  | .ctrlNop _ _ _ | .ctrlReadDht11 _ _ | .ctrlReadDht22 _ _ | .ctrlReadSi7021 _ _ | .ctrlReadRsvd | .ctrlCmdRsvd
  | .wrStatus _ _ _ | .wrRawLo | .wrRawHi | .wrHumX10 | .wrTempX10 | .wrHumF32 | .wrTempF32
  | .rdCtrl | .rdStatus | .rdRawLo | .rdRawHi | .rdHumX10 | .rdTempX10 | .rdHumF32 | .rdTempF32 | .unmapped _ _ => false

end Sys2Proof

namespace Sys2Proof.Machine

/-- The transaction of the coming edge, decoded. -/
def edgeInstr (s : State) : Option Instr := (busTransaction (edgeInput s)).map decode

/-! ### Registers in groups -/

/-- Every result register is 0 (R34, R117). -/
abbrev ResultsZero (s : State) : Prop :=
  s.raw = 0#40 ∧ s.humX10 = 0#16 ∧ s.tempMag = 0#16 ∧ s.tempNeg = false ∧ s.humF32 = 0#32 ∧ s.tempF32 = 0#32

/-- The result registers are the same in both states (R34). -/
abbrev SameResults (s t : State) : Prop :=
  t.valid = s.valid ∧ t.raw = s.raw ∧ t.humX10 = s.humX10 ∧ t.tempMag = s.tempMag ∧ t.tempNeg = s.tempNeg ∧
  t.humF32 = s.humF32 ∧ t.tempF32 = s.tempF32

/-- The sequencer position is the same in both states (R38). -/
abbrev SamePosition (s t : State) : Prop := t.state = s.state ∧ t.bitidx = s.bitidx ∧ t.tcnt = s.tcnt

/-- `t` is `s` but for the combinational outputs of the edge: no register differs. -/
abbrev SameRegisters (s t : State) : Prop :=
  t = { s with busRdata := t.busRdata, padCfgReq := t.padCfgReq, padCfgPu := t.padCfgPu }

/-- `t` is `s` but for the sticky flags and the combinational outputs of the edge. -/
abbrev SameButFlags (s t : State) : Prop :=
  t = { s with
    doneF := t.doneF, ovrF := t.ovrF, cmderrF := t.cmderrF
    busRdata := t.busRdata, padCfgReq := t.padCfgReq, padCfgPu := t.padCfgPu }

/-! ### Invariants -/

/-- The invariants of R51, and R237's that the result registers are 0 unless `valid` = 1; the clauses of R51 on codes that
are never held are the types' own. -/
structure Inv (s : State) : Prop where
  drives_in_reset : s.padOeR = true ↔ s.state = .reset
  busy_init : s.busy = true → s.initDone = true ∧ s.valid = false ∧ ResultsZero s
  valid_done : s.valid = true ↔ s.state = .done
  fail_code : s.state = .fail → s.errCode ≠ .none
  other_code : s.state ≠ .fail → s.errCode = .none
  invalid_zero : s.valid = false → ResultsZero s
  bit_code : s.errBit ≠ 0#6 → s.errCode = .bitTimeout
  bit_range : s.bitidx.toNat ≤ 39

/-- The phase counter and the low duration fit their TCNT_W bits (R27, R29). -/
abbrev CounterFits (s : State) : Prop := s.tcnt < 2 ^ s.par.tcntW ∧ s.lowDur < 2 ^ s.par.tcntW

/-! ### Tick counts -/

/-- The most ticks a wait can take: LAST(T), or the one tick of a wait that samples nothing (R147, R149; log 8). -/
def waitLen (tickUs timeout : Nat) : Nat := max 1 (lastSample tickUs timeout)

/-- The most ticks the current phase can take (R149, R162). -/
def phaseLen (s : State) : Nat :=
  match s.state with
  | .reset => resetLen s.par s.actVariant
  | .ack1 => waitLen s.par.tickUs s.par.tAck1
  | .ack2 => waitLen s.par.tickUs s.par.tAck2
  | .ack3 => waitLen s.par.tickUs s.par.tAck3
  | .bitLow => waitLen s.par.tickUs s.par.tBitLow
  | .bitHigh => waitLen s.par.tickUs s.par.tBitHigh
  | .idle | .done | .fail => 0

/-- While busy, the phase counter is below the phase's length and the bit index is one of 0 to 39 (R27, R28). -/
abbrev PhaseFits (s : State) : Prop := s.busy = true → s.tcnt < phaseLen s ∧ s.bitidx.toNat ≤ 39

/-- The most ticks one bit can take. -/
def bitLen (p : Config.Params) : Nat := waitLen p.tickUs p.tBitLow + waitLen p.tickUs p.tBitHigh

/-- The most ticks after which a read in flight has ended (R174). -/
def ticksLeft (s : State) : Nat :=
  let p := s.par
  let now := phaseLen s - s.tcnt
  match s.state with
  | .reset => now + waitLen p.tickUs p.tAck1 + waitLen p.tickUs p.tAck2 + waitLen p.tickUs p.tAck3 + 40 * bitLen p
  | .ack1 => now + waitLen p.tickUs p.tAck2 + waitLen p.tickUs p.tAck3 + 40 * bitLen p
  | .ack2 => now + waitLen p.tickUs p.tAck3 + 40 * bitLen p
  | .ack3 => now + 40 * bitLen p
  | .bitLow => now + waitLen p.tickUs p.tBitHigh + (39 - s.bitidx.toNat) * bitLen p
  | .bitHigh => now + (39 - s.bitidx.toNat) * bitLen p
  | .idle | .done | .fail => 0

/-- R174's bound for a read of variant `v`, every wait sampling at least once. -/
def readBound (p : Config.Params) (v : Variant) : Nat :=
  resetLen p v + lastSample p.tickUs p.tAck1 + lastSample p.tickUs p.tAck2 + lastSample p.tickUs p.tAck3
    + 40 * (lastSample p.tickUs p.tBitLow + lastSample p.tickUs p.tBitHigh)

/-- Every wait has at least one sample point: no timeout is below TICK_US (R147). -/
abbrev WaitsSample (p : Config.Params) : Prop :=
  p.tickUs ≤ p.tAck1 ∧ p.tickUs ≤ p.tAck2 ∧ p.tickUs ≤ p.tAck3 ∧ p.tickUs ≤ p.tBitLow ∧ p.tickUs ≤ p.tBitHigh

/-- `n` edges from `s`, stopping at the first fault or refusal. -/
def runEdges (n : Nat) (s : State) : Host.Outcome State Fault Refusal := Host.Core.run Sys2Proof.core n s

/-- How many of the listed edges are ticks (R21). -/
def countTicks (es : List Config.EdgeIn) : Nat := es.countP (fun e => e.usTick)

/-- A wait, tick by tick, from `count` ticks on: `line j` is the level at the wait's tick `j`. Answers the tick at which
it ended and how, if it ended within `fuel` ticks (R144). -/
def awaitRun (tickUs timeout : Nat) (level : Bool) (line : Nat → Bool) : (fuel count : Nat) → Option (Nat × AwaitResult)
  | 0, _ => none
  | fuel + 1, count =>
    match await tickUs timeout level (line (count + 1)) count with
    | .pending t => awaitRun tickUs timeout level line fuel t
    | .seen d => some (count + 1, .seen d)
    | .timeout => some (count + 1, .timeout)

/-- The bits decoded one after another from measured (low, high) durations, each low duration having been recorded
(R166, R167). -/
def decodeDurations (ds : List (Nat × Nat)) (s : State) : State :=
  ds.foldl (fun s d => bitDecoded d.2 { s with lowDur := d.1 }) s

/-- The timeout of a waiting state (R160); the other states have none. -/
def waitTimeout (s : State) : Option Nat :=
  match s.state with
  | .ack1 => some s.par.tAck1
  | .ack2 => some s.par.tAck2
  | .ack3 => some s.par.tAck3
  | .bitLow => some s.par.tBitLow
  | .bitHigh => some s.par.tBitHigh
  | .idle | .reset | .done | .fail => none

/-- The coming edge reads the line: a tick, in a waiting state, at a sample point (R142, R145). -/
def readsLine (s : State) : Bool :=
  (edgeInput s).usTick &&
    match waitTimeout s with
    | some timeout => isSample s.par.tickUs timeout (s.tcnt + 1)
    | none => false

/-- A binary32 pattern's magnitude in units of 2^-149, sign ignored (R187: biased exponent bits 30:23, fraction bits 22:0),
for a finite pattern. -/
def f32Units (w : Word) : Nat :=
  let ex := (w.extractLsb' 23 8).toNat
  let fr := (w.extractLsb' 0 23).toNat
  if ex = 0 then fr else (2 ^ 23 + fr) * 2 ^ (ex - 1)

/-- A pattern is finite: its exponent field is not all ones. -/
def f32Finite (w : Word) : Bool := decide ((w.extractLsb' 23 8).toNat < 255)

/-- The distance of two naturals. -/
def natDist (a b : Nat) : Nat := (a - b) + (b - a)

end Sys2Proof.Machine
end

