-- ==== Sys2Proof/Certificates/Slice0/Obligations.lean ====
section
/-! DEFINITION. The statements for the provers, from the numbered rules of spec/. The block has no memory (R70), so no
statement speaks of a byte of memory; what a host can read, the register window, takes its place. `exec` is the host part
of an edge and `step` the whole edge (R110). -/

open Sys2Proof Sys2Proof.Machine

/-! ### Encoding -/

/-- R95: words written out from the map of spec/30_encoding.md decode to their rows. -/
def Obligations.WordsDecodeAsTheMapSays : Prop :=
  decode 0x8000000020#40 = .ctrlNop 0b00#2 false true ∧
  decode 0x8000000011#40 = .ctrlInit 0b00#2 true false ∧
  decode 0x800000000D#40 = .ctrlInit 0b11#2 false false ∧
  decode 0x8000000022#40 = .ctrlReadDht11 false true ∧
  decode 0x8000000026#40 = .ctrlReadDht22 false true ∧
  decode 0x800000000A#40 = .ctrlReadSi7021 false false ∧
  decode 0x800000000E#40 = .ctrlReadRsvd ∧
  decode 0x8000000003#40 = .ctrlCmdRsvd ∧
  decode 0x8400000080#40 = .wrStatus true false false ∧
  decode 0x9012345678#40 = .wrHumX10 ∧
  decode 0x0400000000#40 = .rdStatus ∧
  decode 0x8100000002#40 = .unmapped true 0x01#7 ∧
  decode 0x2000000000#40 = .unmapped false 0x20#7

/-- R90 to R95: decoding an encoded well-formed instruction gives it back, whatever its operands, and whatever the word, the
decoder gives a well-formed instruction. -/
def Obligations.DecodeInvertsEncode : Prop :=
  (∀ i : Instr, WellFormed i → decode (encode i) = i) ∧ (∀ w : TW, WellFormed (decode w))

/-- R94: the decoder is the opcode table's. No word matches two rows; a word matches a row exactly if it decodes to that
row's transaction, and decodes to UNMAPPED exactly if it matches none. -/
def Obligations.DecodeAgreesWithTheOpcodeTable : Prop :=
  (∀ (w : TW) (r r' : OpcodeRow), r ∈ mappedRows → r' ∈ mappedRows → r.Matches w → r'.Matches w → r = r') ∧
  (∀ (w : TW) (r : OpcodeRow), r ∈ mappedRows → (r.Matches w ↔ (decode w).mnemonic = r.mnemonic)) ∧
  (∀ w : TW, (∀ r ∈ mappedRows, ¬ r.Matches w) ↔ (decode w).mnemonic = "UNMAPPED")

/-- R90, R91, R92, R96: the bits the block ignores do not change what a word decodes to. -/
def Obligations.IgnoredBitsDoNotDecode : Prop :=
  (∀ (a : Offset) (d d' : Word), decode (mkTW false a d) = decode (mkTW false a d')) ∧
  (∀ d d' : Word, d &&& 0x3F#32 = d' &&& 0x3F#32 → decode (mkTW true 0x00#7 d) = decode (mkTW true 0x00#7 d')) ∧
  (∀ d d' : Word, d &&& 0x380#32 = d' &&& 0x380#32 → decode (mkTW true 0x04#7 d) = decode (mkTW true 0x04#7 d')) ∧
  (∀ (a : Offset) (d d' : Word), a ≠ 0x00#7 → a ≠ 0x04#7 → decode (mkTW true a d) = decode (mkTW true a d'))

/-! ### The edge -/

/-- R110: with no reset, `step` decodes the transaction on the bus and runs `exec`, and if the edge is a tick and the state
before was busy, the tick rule acts. R110 computes both parts from the state before the edge: that the tick rule runs on
the state the host part leaves is the model's choice (log 13), and TickPartReadsTheStateBefore says that the two agree. At
the end the edge's inputs are used up (the model's choice, log 1). A fault of `exec` is the step's. An edge with no
transaction has the tick part only, and reads 0. -/
def Obligations.StepRunsTheDecodedTransaction : Prop :=
  ∀ s : State, s.par.Legal → (edgeInput s).rst = false →
    let tail (h : State) : State :=
      advance (if (edgeInput s).usTick && s.busy then tick (edgeInput s).padIn h else h)
    (∀ w h, busTransaction (edgeInput s) = some w → exec (decode w) s = .next h → step s = .next (tail h)) ∧
    (∀ w f, busTransaction (edgeInput s) = some w → exec (decode w) s = .fault f → step s = .fault f) ∧
    ((edgeInput s).busValid = false →
      step s = .next (tail { s with busRdata := 0#32, padCfgReq := false, padCfgPu := false })) ∧
    ((edgeInput s).busValid = true → busTransaction (edgeInput s) =
      some (mkTW (edgeInput s).busWe (edgeInput s).busAddr (edgeInput s).busWdata))

/-- R110, R209: a tick part computed after the host part (the model's choice, log 13) is the one computed from the state
before the edge, as R110 has it; the flags merge with a set winning over a clear. -/
def Obligations.TickPartReadsTheStateBefore : Prop :=
  ∀ (i : Instr) (s h : State) (padIn : Bool), s.busy = true → exec i s = .next h →
    tick padIn h = { tick padIn s with
      ovrF := h.ovrF, cmderrF := h.cmderrF
      doneF := if (tick padIn s).busy then h.doneF else true
      busRdata := h.busRdata, padCfgReq := h.padCfgReq, padCfgPu := h.padCfgPu }

/-- R230: in a reset edge every register takes its reset value, whatever the other inputs and the state; a bus read returns 0
and a bus write has no effect. (The model's own fields, logs 1 and 3, are left out: StepKeepsTheParameters has them.) -/
def Obligations.ResetEdgeRestoresEveryRegister : Prop :=
  ∀ s : State, s.par.Legal → (edgeInput s).rst = true →
    ∃ t, step s = .next t ∧ t = { State.reset with par := t.par, inputs := t.inputs, edges := t.edges } ∧
      (outputs t).busRdata = 0#32

/-- R48: the reset values, register by register, and what a host then reads. -/
def Obligations.ResetValues : Prop :=
  let r := State.reset
  r.state = .idle ∧ r.tcnt = 0 ∧ r.bitidx = 0#6 ∧ r.lowDur = 0 ∧ r.frame = 0#40 ∧ r.actVariant = .dht11 ∧
  r.padOeR = false ∧ r.padOdR = false ∧ r.padPuR = false ∧ r.initDone = false ∧ r.cfgErr = false ∧
  r.valid = false ∧ ResultsZero r ∧ r.errCode = .none ∧ r.errBit = 0#6 ∧
  r.doneF = false ∧ r.ovrF = false ∧ r.cmderrF = false ∧
  r.ctrlVariant = 0#2 ∧ r.ctrlPu = false ∧ r.ctrlIe = false ∧
  (∀ a : Offset, readValue r a = 0#32) ∧
  (outputs r).padOe = false ∧ (outputs r).padOd = false ∧ (outputs r).padPu = false ∧
  (outputs r).irq = false ∧ (outputs r).csActive = false

/-- R7: a step is refused exactly for a parameter set outside the legal ranges. -/
def Obligations.IllegalParametersAreRefused : Prop :=
  ∀ (s : State) (r : Refusal), step s = .refused r ↔
    (r = .illegalParameters ∧
      (s.par.tickUs < 1 ∨ s.par.resetUsSi7021 < 1 ∨ s.par.resetUsDht < 1 ∨
        2 ^ s.par.tcntW - 1 < s.par.tAck1 ∨ 2 ^ s.par.tcntW - 1 < s.par.tAck2 ∨ 2 ^ s.par.tcntW - 1 < s.par.tAck3 ∨
        2 ^ s.par.tcntW - 1 < s.par.tBitLow ∨ 2 ^ s.par.tcntW - 1 < s.par.tBitHigh ∨
        2 ^ s.par.tcntW - 1 < s.par.resetUsSi7021 ∨ 2 ^ s.par.tcntW - 1 < s.par.resetUsDht))

/-- R206: a step faults exactly if a READ of a legal variant arrives, not under reset, in a state that is not busy and not
initialised. -/
def Obligations.StepFaultsExactlyOnReadBeforeInit : Prop :=
  ∀ (s : State) (f : Fault), step s = .fault f ↔
    (f = .readBeforeInit ∧ s.par.Legal ∧ (edgeInput s).rst = false ∧ s.busy = false ∧ s.initDone = false ∧
      ∃ i, edgeInstr s = some i ∧ i.readVariant.isSome = true)

/-- R50, and the model's own fields (logs 1 and 3): no step changes the parameters, and each uses up one edge's inputs. -/
def Obligations.StepKeepsTheParameters : Prop :=
  ∀ s t : State, step s = .next t → t.par = s.par ∧ t.inputs = s.inputs.tail ∧ t.edges = s.edges + 1

/-! ### Commands -/

/-- R204: any CTRL write while busy sets OVR and does nothing else. -/
def Obligations.CtrlWriteWhileBusyOnlySetsOvr : Prop :=
  ∀ (i : Instr) (s : State), i.isCtrl = true → s.busy = true →
    exec i s = .next { s with ovrF := true, busRdata := 0#32, padCfgReq := false, padCfgPu := false }

/-- R205: a CTRL write, not busy, with CMD = 0b11, or CMD = READ and VARIANT = 0b11, sets CMD_ERR and does nothing else, INIT
done or not. -/
def Obligations.ReservedCtrlWritesOnlySetCmdErr : Prop :=
  ∀ s : State, s.busy = false →
    let t : State := { s with cmderrF := true, busRdata := 0#32, padCfgReq := false, padCfgPu := false }
    exec .ctrlReadRsvd s = .next t ∧ exec .ctrlCmdRsvd s = .next t ∧
    ∀ d : Word, (d.extractLsb' 0 2 = 0b11#2 ∨ d.extractLsb' 0 4 = 0b1110#4) →
      exec (decode (mkTW true 0x00#7 d)) s = .next t

/-- R112: an accepted NOP changes only the three stored CTRL fields. -/
def Obligations.NopStoresItsFields : Prop :=
  ∀ (var : BitVec 2) (pu ie : Bool) (s : State), s.busy = false →
    exec (.ctrlNop var pu ie) s =
      .next { s with
        ctrlVariant := var, ctrlPu := pu, ctrlIe := ie
        busRdata := 0#32, padCfgReq := false, padCfgPu := false }

/-- R113, R140, R203: an INIT presents its request, and the platform's answer decides: open-drain, released, the pull-up as
asked and initialised; or the reset configuration, CFG_ERR and not initialised. -/
def Obligations.InitTakesThePlatformsAnswer : Prop :=
  ∀ (var : BitVec 2) (pu ie : Bool) (s : State), s.busy = false →
    ((edgeInput s).padCfgReject = false →
      exec (.ctrlInit var pu ie) s =
        .next { s with
          padOdR := true, padPuR := pu, padOeR := false, initDone := true, cfgErr := false
          ctrlVariant := var, ctrlPu := pu, ctrlIe := ie
          busRdata := 0#32, padCfgReq := true, padCfgPu := pu }) ∧
    ((edgeInput s).padCfgReject = true →
      exec (.ctrlInit var pu ie) s =
        .next { s with
          padOdR := false, padPuR := false, padOeR := false, initDone := false, cfgErr := true
          ctrlVariant := var, ctrlPu := pu, ctrlIe := ie
          busRdata := 0#32, padCfgReq := true, padCfgPu := pu })

/-- R114 to R117: an accepted READ starts the reset pulse of its variant with every trace of the last read cleared; `ovr_f`
and `cmderr_f` stay; BUSY and `cs_active` are 1 and the line is pulled low after the edge. -/
def Obligations.ReadStartsFresh : Prop :=
  ∀ (pu ie : Bool) (s : State), s.busy = false → s.initDone = true →
    let started (v : Variant) (code : BitVec 2) : State :=
      { s with
        actVariant := v, ctrlVariant := code, ctrlPu := pu, ctrlIe := ie
        state := .reset, tcnt := 0, bitidx := 0#6, lowDur := 0, frame := 0#40, padOeR := true
        valid := false, raw := 0#40, humX10 := 0#16, tempMag := 0#16, tempNeg := false, humF32 := 0#32, tempF32 := 0#32
        errCode := .none, errBit := 0#6, doneF := false
        busRdata := 0#32, padCfgReq := false, padCfgPu := false }
    exec (.ctrlReadDht11 pu ie) s = .next (started .dht11 0b00#2) ∧
    exec (.ctrlReadDht22 pu ie) s = .next (started .dht22 0b01#2) ∧
    exec (.ctrlReadSi7021 pu ie) s = .next (started .si7021 0b10#2) ∧
    ∀ v code, (started v code).busy = true ∧ (outputs (started v code)).csActive = true ∧
      (outputs (started v code)).padOe = true

/-- R120: a STATUS write clears the flags its mask names and nothing else, busy or not. -/
def Obligations.StatusWriteClearsTheNamedFlags : Prop :=
  ∀ (clrDone clrOvr clrCmderr : Bool) (s : State),
    exec (.wrStatus clrDone clrOvr clrCmderr) s =
      .next { s with
        doneF := s.doneF && !clrDone, ovrF := s.ovrF && !clrOvr, cmderrF := s.cmderrF && !clrCmderr
        busRdata := 0#32, padCfgReq := false, padCfgPu := false }

/-- R121: a write to a read-only result register, whatever its data, changes no register and raises no flag. -/
def Obligations.ResultRegisterWritesChangeNothing : Prop :=
  (∀ d : Word, decode (mkTW true 0x08#7 d) = .wrRawLo ∧ decode (mkTW true 0x0C#7 d) = .wrRawHi ∧
    decode (mkTW true 0x10#7 d) = .wrHumX10 ∧ decode (mkTW true 0x14#7 d) = .wrTempX10 ∧
    decode (mkTW true 0x18#7 d) = .wrHumF32 ∧ decode (mkTW true 0x1C#7 d) = .wrTempF32) ∧
  ∀ s : State,
    let t : State := { s with busRdata := 0#32, padCfgReq := false, padCfgPu := false }
    exec .wrRawLo s = .next t ∧ exec .wrRawHi s = .next t ∧ exec .wrHumX10 s = .next t ∧
    exec .wrTempX10 s = .next t ∧ exec .wrHumF32 s = .next t ∧ exec .wrTempF32 s = .next t

/-- R72, R73, R130: an access to a misaligned offset or to one of 0x20 to 0x7F decodes to UNMAPPED, which reads 0 and changes
no register. -/
def Obligations.UnmappedAccessesAreInert : Prop :=
  (∀ w : TW, ((twAddr w).toNat % 4 ≠ 0 ∨ 0x20 ≤ (twAddr w).toNat) → decode w = .unmapped (twWe w) (twAddr w)) ∧
  (∀ (we : Bool) (a : Offset) (s : State),
    exec (.unmapped we a) s = .next { s with busRdata := 0#32, padCfgReq := false, padCfgPu := false })

/-- R41 to R46, R122 to R129: what each register's read returns; no register changes. -/
def Obligations.RegisterReads : Prop :=
  ∀ s : State,
    let answer (v : Word) : Host.Outcome State Fault Refusal :=
      .next { s with busRdata := v, padCfgReq := false, padCfgPu := false }
    exec .rdCtrl s = answer (0#26 ++ BitVec.ofBool s.ctrlIe ++ BitVec.ofBool s.ctrlPu ++ s.ctrlVariant ++ 0#2) ∧
    exec .rdStatus s = answer (0#10 ++ s.errBit ++ s.errCode.code ++ 0#1 ++ BitVec.ofBool s.cfgErr
      ++ BitVec.ofBool s.cmderrF ++ BitVec.ofBool s.ovrF ++ BitVec.ofBool s.doneF ++ BitVec.ofBool s.valid
      ++ BitVec.ofBool s.initDone ++ BitVec.ofBool s.busy ++ s.state.code) ∧
    exec .rdRawLo s = answer (s.raw.extractLsb' 8 8 ++ s.raw.extractLsb' 16 8 ++ s.raw.extractLsb' 24 8
      ++ s.raw.extractLsb' 32 8) ∧
    exec .rdRawHi s = answer (0#24 ++ s.raw.extractLsb' 0 8) ∧
    exec .rdHumX10 s = answer (0#16 ++ s.humX10) ∧
    exec .rdTempX10 s = answer (0#15 ++ BitVec.ofBool s.tempNeg ++ s.tempMag) ∧
    exec .rdHumF32 s = answer s.humF32 ∧
    exec .rdTempF32 s = answer s.tempF32

/-- R39, R42, R26, R201: the fields of STATUS, bit by bit, BUSY's states, and the codes of STATE and ERR_CODE. -/
def Obligations.StatusFields : Prop :=
  (∀ s : State,
    (statusValue s).extractLsb' 0 4 = s.state.code ∧ (statusValue s).getLsbD 4 = s.busy ∧
    (statusValue s).getLsbD 5 = s.initDone ∧ (statusValue s).getLsbD 6 = s.valid ∧
    (statusValue s).getLsbD 7 = s.doneF ∧ (statusValue s).getLsbD 8 = s.ovrF ∧
    (statusValue s).getLsbD 9 = s.cmderrF ∧ (statusValue s).getLsbD 10 = s.cfgErr ∧
    (statusValue s).getLsbD 11 = false ∧ (statusValue s).extractLsb' 12 4 = s.errCode.code ∧
    (statusValue s).extractLsb' 16 6 = s.errBit ∧ (statusValue s).extractLsb' 22 10 = 0#10) ∧
  (∀ s : State, s.busy = true ↔ (s.state = .reset ∨ s.state = .ack1 ∨ s.state = .ack2 ∨ s.state = .ack3 ∨
    s.state = .bitLow ∨ s.state = .bitHigh)) ∧
  [SeqState.idle, .reset, .ack1, .ack2, .ack3, .bitLow, .bitHigh, .done, .fail].map (fun q => q.code.toNat) =
    [0, 1, 2, 3, 4, 5, 6, 7, 8] ∧
  [ErrCode.none, .initAckMissing, .initAckIncomplete, .initAckTimeout, .bitTimeout, .checksumMismatch].map
    (fun c => c.code.toNat) = [0, 1, 2, 3, 4, 5]

/-- R74, R75, R238: a read transaction returns the value its offset has in the state before the edge, whatever else the edge
does, and its host part changes no register. -/
def Obligations.ReadsReturnTheStateBefore : Prop :=
  ∀ (s : State) (w : TW), twWe w = false →
    exec (decode w) s = .next { s with busRdata := readValue s (twAddr w), padCfgReq := false, padCfgPu := false } ∧
    (s.par.Legal → (edgeInput s).rst = false → busTransaction (edgeInput s) = some w →
      ∃ t, step s = .next t ∧ t.busRdata = readValue s (twAddr w))

/-! ### Frames -/

/-- R111, R112, R118, R119: what NOP and the reserved CTRL writes leave unchanged. -/
def Obligations.FrameOfNopAndReservedWrites : Prop :=
  (∀ (var : BitVec 2) (pu ie : Bool) (s t : State), exec (.ctrlNop var pu ie) s = .next t →
    t = { s with
      ctrlVariant := t.ctrlVariant, ctrlPu := t.ctrlPu, ctrlIe := t.ctrlIe, ovrF := t.ovrF
      busRdata := t.busRdata, padCfgReq := t.padCfgReq, padCfgPu := t.padCfgPu } ∧
    ∀ a : Offset, a ≠ 0x00#7 → a ≠ 0x04#7 → readValue t a = readValue s a) ∧
  (∀ (i : Instr) (s t : State), i = .ctrlReadRsvd ∨ i = .ctrlCmdRsvd → exec i s = .next t →
    t = { s with
      ovrF := t.ovrF, cmderrF := t.cmderrF
      busRdata := t.busRdata, padCfgReq := t.padCfgReq, padCfgPu := t.padCfgPu } ∧
    ∀ a : Offset, a ≠ 0x04#7 → readValue t a = readValue s a)

/-- R113: what INIT leaves unchanged: the sequencer, the results, the outcome registers, DONE and CMD_ERR. -/
def Obligations.FrameOfInit : Prop :=
  ∀ (var : BitVec 2) (pu ie : Bool) (s t : State), exec (.ctrlInit var pu ie) s = .next t →
    t = { s with
      padOeR := t.padOeR, padOdR := t.padOdR, padPuR := t.padPuR, initDone := t.initDone, cfgErr := t.cfgErr
      ctrlVariant := t.ctrlVariant, ctrlPu := t.ctrlPu, ctrlIe := t.ctrlIe, ovrF := t.ovrF
      busRdata := t.busRdata, padCfgReq := t.padCfgReq, padCfgPu := t.padCfgPu } ∧
    ∀ a : Offset, a ≠ 0x00#7 → a ≠ 0x04#7 → readValue t a = readValue s a

/-- R117: what the READ commands leave unchanged: the pad's configuration, INIT_DONE, CFG_ERR and CMD_ERR; OVR too where the
READ is accepted. -/
def Obligations.FrameOfReadCommands : Prop :=
  ∀ (i : Instr) (s t : State), i.readVariant.isSome = true → exec i s = .next t →
    t.padOdR = s.padOdR ∧ t.padPuR = s.padPuR ∧ t.initDone = s.initDone ∧ t.cfgErr = s.cfgErr ∧
    t.cmderrF = s.cmderrF ∧ (s.busy = false → t.ovrF = s.ovrF) ∧
    t.par = s.par ∧ t.inputs = s.inputs ∧ t.edges = s.edges

/-- R74, R120, R121, R130: reads, writes to the result registers and unmapped accesses change no register and no readable
value; a STATUS write changes the sticky flags only, and the readable value of STATUS only. -/
def Obligations.FrameOfOtherTransactions : Prop :=
  (∀ (i : Instr) (s t : State), i.isCtrl = false → (∀ a b c, i ≠ .wrStatus a b c) → exec i s = .next t →
    SameRegisters s t ∧ ∀ a : Offset, readValue t a = readValue s a) ∧
  (∀ (clrDone clrOvr clrCmderr : Bool) (s t : State), exec (.wrStatus clrDone clrOvr clrCmderr) s = .next t →
    SameButFlags s t ∧ ∀ a : Offset, a ≠ 0x04#7 → readValue t a = readValue s a)

/-! ### Promises of the whole machine -/

/-- R173, R111: while a read is in flight every transaction completes, and no transaction changes anything but the sticky
flags: no command stops or disturbs the read. -/
def Obligations.NoTransactionDisturbsAReadInFlight : Prop :=
  ∀ (i : Instr) (s : State), s.busy = true → ∃ t, exec i s = .next t ∧ SameButFlags s t

/-- R34: over a whole edge without reset, a result register changes only at READ acceptance, to 0, or in the edge that
completes a read, which is DONE. -/
def Obligations.ResultsChangeOnlyAtAcceptanceOrCompletion : Prop :=
  ∀ s t : State, step s = .next t → (edgeInput s).rst = false →
    SameResults s t ∨
    (s.busy = false ∧ (∃ i, edgeInstr s = some i ∧ i.readVariant.isSome = true) ∧ t.valid = false ∧ ResultsZero t) ∨
    (s.state = .bitHigh ∧ s.bitidx = 39#6 ∧ (edgeInput s).usTick = true ∧ t.state = .done ∧ t.valid = true)

/-- R32: which events write the pad registers, over a whole edge without reset. -/
def Obligations.PadRegistersWrittenOnlyAsSaid : Prop :=
  ∀ s t : State, step s = .next t → (edgeInput s).rst = false →
    (t.padOdR ≠ s.padOdR ∨ t.padPuR ≠ s.padPuR →
      s.busy = false ∧ ∃ i, edgeInstr s = some i ∧ i.isInit = true) ∧
    (t.padOeR ≠ s.padOeR → t.padOeR = true →
      s.busy = false ∧ (∃ i, edgeInstr s = some i ∧ i.readVariant.isSome = true) ∧ t.state = .reset) ∧
    (t.padOeR ≠ s.padOeR → t.padOeR = false →
      (s.busy = false ∧ ∃ i, edgeInstr s = some i ∧ i.isInit = true) ∨
      (s.busy = true ∧ (edgeInput s).usTick = true ∧ ((s.state = .reset ∧ t.state = .ack1) ∨ t.state = .fail))) ∧
    (outputs t).padOe = t.padOeR ∧ (outputs t).padOd = t.padOdR ∧ (outputs t).padPu = t.padPuR

/-- R38: the sequencer position moves only in a tick while busy, at READ acceptance from a resting state (to RESET), or at
reset (to IDLE). -/
def Obligations.SequencerMovesOnlyAsSaid : Prop :=
  ∀ s t : State, step s = .next t → ¬ SamePosition s t →
    ((edgeInput s).rst = true ∧ t.state = .idle) ∨
    ((edgeInput s).rst = false ∧ s.busy = true ∧ (edgeInput s).usTick = true) ∨
    ((edgeInput s).rst = false ∧ s.busy = false ∧ s.initDone = true ∧
      (∃ i, edgeInstr s = some i ∧ i.readVariant.isSome = true) ∧ t.state = .reset)

/-- R207, R36: without reset, DONE rises only in the tick that ends a read, and always rises there, whatever the outcome;
`irq` is IRQ_EN and DONE. -/
def Obligations.DoneRisesExactlyAtTheEndOfARead : Prop :=
  ∀ s t : State, step s = .next t → (edgeInput s).rst = false →
    (s.doneF = false → t.doneF = true → s.busy = true ∧ (edgeInput s).usTick = true ∧ t.busy = false) ∧
    (s.busy = true → t.busy = false → t.doneF = true) ∧
    (outputs t).irq = (t.ctrlIe && t.doneF)

/-- R172: `cs_active` is BUSY; it rises only at the acceptance of a READ, and falls only at a reset or in a tick that enters
DONE or FAIL. -/
def Obligations.CriticalSectionFollowsTheRead : Prop :=
  ∀ s t : State, step s = .next t →
    ((outputs t).csActive = true ↔ t.busy = true) ∧
    (s.busy = false → t.busy = true →
      (edgeInput s).rst = false ∧ t.state = .reset ∧ ∃ i, edgeInstr s = some i ∧ i.readVariant.isSome = true) ∧
    (s.busy = true → t.busy = false →
      (edgeInput s).rst = true ∨ ((edgeInput s).usTick = true ∧ (t.state = .done ∨ t.state = .fail)))

/-- R49: the output equations over a whole edge: the configuration request and its pull-up, and the read data, are those of
the edge's own transaction. -/
def Obligations.CombinationalOutputs : Prop :=
  ∀ s t : State, step s = .next t →
    ((outputs t).padCfgReq = true ↔
      ((edgeInput s).rst = false ∧ s.busy = false ∧ ∃ i, edgeInstr s = some i ∧ i.isInit = true)) ∧
    (outputs t).padCfgPu = ((outputs t).padCfgReq && (edgeInput s).busWdata.getLsbD 4) ∧
    (outputs t).busRdata =
      (if (edgeInput s).rst = false ∧ (edgeInput s).busValid = true ∧ (edgeInput s).busWe = false
        then readValue s (edgeInput s).busAddr else 0#32)

/-- R176, R143: in a resting state neither a tick nor the line's level has any effect. -/
def Obligations.RestingStatesIgnoreTicksAndTheLine : Prop :=
  ∀ (s : State) (e : Config.EdgeIn) (es : List Config.EdgeIn) (usTick padIn : Bool), s.busy = false →
    s.inputs = e :: es → step { s with inputs := { e with usTick := usTick, padIn := padIn } :: es } = step s

/-- R142, R148: the line is read only at the sample points of a waiting state: in every other edge its level has no effect. -/
def Obligations.LineReadOnlyAtSamplePoints : Prop :=
  ∀ (s : State) (e : Config.EdgeIn) (es : List Config.EdgeIn) (padIn : Bool),
    s.inputs = e :: es → readsLine s = false → step { s with inputs := { e with padIn := padIn } :: es } = step s

/-- R201, R202, R171, R210: entering FAIL. The reason is that of the state whose wait timed out, with the bit's index for a
bit timeout only, or the checksum mismatch after bit 39; the line is released, DONE is set, the counter is 0 and no result
register is written. -/
def Obligations.FailureEntryRecordsItsReason : Prop :=
  ∀ s t : State, step s = .next t → (edgeInput s).rst = false → s.state ≠ .fail → t.state = .fail →
    s.busy = true ∧ (edgeInput s).usTick = true ∧
    t.padOeR = false ∧ t.doneF = true ∧ t.tcnt = 0 ∧ SameResults s t ∧
    ((s.state = .ack1 ∧ t.errCode = .initAckMissing ∧ t.errBit = 0#6) ∨
      (s.state = .ack2 ∧ t.errCode = .initAckIncomplete ∧ t.errBit = 0#6) ∨
      (s.state = .ack3 ∧ t.errCode = .initAckTimeout ∧ t.errBit = 0#6) ∨
      ((s.state = .bitLow ∨ s.state = .bitHigh) ∧ t.errCode = .bitTimeout ∧ t.errBit = s.bitidx) ∨
      (s.state = .bitHigh ∧ s.bitidx = 39#6 ∧ t.errCode = .checksumMismatch ∧ t.errBit = 0#6))

/-! ### Timing monitor -/

/-- R146: a wait that sees its level at a tick returns that tick: a multiple of P, from P to LAST(T), at most T, and the line
shows the level there. -/
def Obligations.SeenDurationsLieOnTheGrid : Prop :=
  ∀ (p timeout d count : Nat) (level padIn : Bool), 1 ≤ p →
    await p timeout level padIn count = .seen d →
      d = count + 1 ∧ d % p = 0 ∧ p ≤ d ∧ d ≤ lastSample p timeout ∧ lastSample p timeout ≤ timeout ∧ padIn = level

/-- R146: if the line first shows the level at tick r, P(k-1) < r ≤ Pk ≤ LAST(T), and holds it through tick Pk, the wait
returns Pk. -/
def Obligations.WaitRoundsUpToTheGrid : Prop :=
  ∀ (p timeout r k : Nat) (level : Bool) (line : Nat → Bool), 1 ≤ p → 1 ≤ k →
    p * (k - 1) < r → r ≤ p * k → p * k ≤ lastSample p timeout →
    (∀ j, 1 ≤ j → j < r → line j ≠ level) → (∀ j, r ≤ j → j ≤ p * k → line j = level) →
      awaitRun p timeout level line (p * k) 0 = some (p * k, .seen (p * k))

/-- R147, R149: a wait with a sample point times out at LAST(T) when no sample sees the level; one without times out at its
first tick, unread; and every wait ends within LAST(T) ticks, or one tick where it has no sample point (log 8). -/
def Obligations.WaitTimesOutAtTheLastSample : Prop :=
  ∀ (p timeout : Nat) (level : Bool) (line : Nat → Bool), 1 ≤ p →
    (p ≤ timeout → (∀ j, 1 ≤ j → j ≤ lastSample p timeout → j % p = 0 → line j ≠ level) →
      awaitRun p timeout level line (lastSample p timeout) 0 = some (lastSample p timeout, .timeout)) ∧
    (timeout < p → awaitRun p timeout level line 1 0 = some (1, .timeout)) ∧
    (∃ n r, n ≤ waitLen p timeout ∧ awaitRun p timeout level line (waitLen p timeout) 0 = some (n, r) ∧
      (r = .seen n ∨ r = .timeout))

/-! ### Frame decoder -/

/-- R144, R160, R161, R163 to R167: one tick in RESET, ACK1, ACK2, ACK3 and BIT_LOW, and a timeout or a pending wait in
BIT_HIGH, whose seen wait HighPhaseDecodesItsBit has. -/
def Obligations.TickRules : Prop :=
  ∀ (s : State) (padIn : Bool),
    let failed (code : ErrCode) (bit : BitVec 6) : State :=
      { s with state := .fail, errCode := code, errBit := bit, tcnt := 0, padOeR := false, doneF := true }
    (s.state = .reset → tick padIn s =
      if resetLen s.par s.actVariant ≤ s.tcnt + 1 then { s with padOeR := false, state := .ack1, tcnt := 0 }
      else { s with tcnt := s.tcnt + 1 }) ∧
    (s.state = .ack1 → tick padIn s =
      match await s.par.tickUs s.par.tAck1 false padIn s.tcnt with
      | .seen _ => { s with state := .ack2, tcnt := 0 }
      | .timeout => failed .initAckMissing 0#6
      | .pending t => { s with tcnt := t }) ∧
    (s.state = .ack2 → tick padIn s =
      match await s.par.tickUs s.par.tAck2 true padIn s.tcnt with
      | .seen _ => { s with state := .ack3, tcnt := 0 }
      | .timeout => failed .initAckIncomplete 0#6
      | .pending t => { s with tcnt := t }) ∧
    (s.state = .ack3 → tick padIn s =
      match await s.par.tickUs s.par.tAck3 false padIn s.tcnt with
      | .seen _ => { s with state := .bitLow, bitidx := 0#6, tcnt := 0 }
      | .timeout => failed .initAckTimeout 0#6
      | .pending t => { s with tcnt := t }) ∧
    (s.state = .bitLow → tick padIn s =
      match await s.par.tickUs s.par.tBitLow true padIn s.tcnt with
      | .seen d => { s with lowDur := d, state := .bitHigh, tcnt := 0 }
      | .timeout => failed .bitTimeout s.bitidx
      | .pending t => { s with tcnt := t }) ∧
    (s.state = .bitHigh → await s.par.tickUs s.par.tBitHigh false padIn s.tcnt = .timeout →
      tick padIn s = failed .bitTimeout s.bitidx) ∧
    (∀ t, s.state = .bitHigh → await s.par.tickUs s.par.tBitHigh false padIn s.tcnt = .pending t →
      tick padIn s = { s with tcnt := t })

/-- R167, R168, R170: a high phase that ends decodes its bit: 1 exactly if it is strictly longer than the low phase; the next
bit follows, or after bit 39 the completion of the whole frame. -/
def Obligations.HighPhaseDecodesItsBit : Prop :=
  ∀ (s : State) (padIn : Bool) (d : Nat), s.state = .bitHigh →
    await s.par.tickUs s.par.tBitHigh false padIn s.tcnt = .seen d →
    let f : BitVec 40 := s.frame.extractLsb' 0 39 ++ (if s.lowDur < d then 1#1 else 0#1)
    (s.bitidx ≠ 39#6 → tick padIn s =
      { s with frame := f, bitidx := s.bitidx + 1#6, state := .bitLow, tcnt := 0 }) ∧
    (s.bitidx = 39#6 → tick padIn s = complete f s)

/-- R168: the pulse-width comparator, equal durations being a 0. -/
def Obligations.ComparatorIsStrict : Prop :=
  ∀ low high : Nat, (compareWidths low high = true ↔ high > low) ∧ compareWidths low low = false

/-- R162, R161, R141: the reset pulse lasts RESET_LEN ticks: before the RESET_LEN-th tick the block still drives, and at it
the line is released and ACK1 begins, whatever transactions arrive. -/
def Obligations.ResetPulseLastsItsLength : Prop :=
  ∀ s : State, s.par.Legal → s.state = .reset → s.tcnt = 0 → (∀ e ∈ s.inputs, e.rst = false) →
    (countTicks s.inputs < resetLen s.par s.actVariant →
      ∃ t, runEdges s.inputs.length s = .next t ∧ t.state = .reset ∧ t.padOeR = s.padOeR ∧
        t.tcnt = countTicks s.inputs) ∧
    (∀ es e, s.inputs = es ++ [e] → e.usTick = true → countTicks es + 1 = resetLen s.par s.actVariant →
      ∃ t, runEdges s.inputs.length s = .next t ∧ t.state = .ack1 ∧ t.padOeR = false ∧ t.tcnt = 0)

/-- R167 to R170, R180, R182, R76: forty measured bits, from bit 0 on, end the read: bit i is the strict comparison of its
durations and stands at frame[39 - i], so byte j of the packed frame is bits 8j to 8j + 7, most significant first; the read
is DONE with that frame as RAW if the checksum holds, and FAIL with CHECKSUM_MISMATCH if not. -/
def Obligations.FortyMeasuredBitsEndTheRead : Prop :=
  ∀ (s : State) (ds : List (Nat × Nat)), ds.length = 40 → s.bitidx = 0#6 →
    let t := decodeDurations ds s
    let ok := ((pack t.frame).b0.toNat + (pack t.frame).b1.toNat + (pack t.frame).b2.toNat + (pack t.frame).b3.toNat) % 256
      = (pack t.frame).checksum.toNat
    let bit (i : Nat) : Option Bool := (ds[i]?).map (fun d => decide (d.1 < d.2))
    (∀ i, i < 40 → some (t.frame.getLsbD (39 - i)) = bit i) ∧
    (∀ k, k < 8 →
      some ((pack t.frame).b0.getLsbD (7 - k)) = bit k ∧ some ((pack t.frame).b1.getLsbD (7 - k)) = bit (8 + k) ∧
      some ((pack t.frame).b2.getLsbD (7 - k)) = bit (16 + k) ∧ some ((pack t.frame).b3.getLsbD (7 - k)) = bit (24 + k) ∧
      some ((pack t.frame).checksum.getLsbD (7 - k)) = bit (32 + k)) ∧
    t.doneF = true ∧
    (ok → t.state = .done ∧ t.valid = true ∧ t.raw = t.frame) ∧
    (¬ ok → t.state = .fail ∧ t.errCode = .checksumMismatch ∧ SameResults s t)

/-! ### Value assembler -/

/-- R181: the checksum test on bytes is equality with the sum of the four bytes modulo 256; the all-zero frame passes, the
all-ones frame does not. -/
def Obligations.ChecksumIsTheByteSum : Prop :=
  (∀ r : RawFrame, validate r = true ↔ r.b0 + r.b1 + r.b2 + r.b3 = r.checksum) ∧
  validate (pack 0#40) = true ∧ validate (pack 0xFFFFFFFFFF#40) = false

/-- R183, R184: the DHT11 conversion, exact, at most 2805, never negative. -/
def Obligations.Dht11Conversion : Prop :=
  ∀ r : RawFrame,
    (convert r .dht11).humX10.toNat = 10 * r.b0.toNat + r.b1.toNat ∧
    (convert r .dht11).tempMag.toNat = 10 * r.b2.toNat + r.b3.toNat ∧
    (convert r .dht11).tempNeg = false ∧
    (convert r .dht11).humX10.toNat ≤ 2805 ∧ (convert r .dht11).tempMag.toNat ≤ 2805

/-- R185, R186: the DHT22 and SI7021 conversion, exact: 16-bit humidity, 15-bit magnitude, the sign bit 7 of b2. The last
clause, a magnitude of 0 with the sign set read as 0x00010000 and as -0.0, is the corner case that R186 itself marks as
derived from R186 and R187, and from general knowledge that the sign bit of a zero flips; R182 writes the two registers. -/
def Obligations.Dht22Conversion : Prop :=
  ∀ (r : RawFrame) (v : Variant), v ≠ .dht11 →
    (convert r v).humX10.toNat = 256 * r.b0.toNat + r.b1.toNat ∧
    (convert r v).tempMag.toNat = 256 * (r.b2.toNat % 128) + r.b3.toNat ∧
    ((convert r v).tempNeg = true ↔ 128 ≤ r.b2.toNat) ∧
    (convert r v).tempMag.toNat ≤ 32767 ∧
    ∀ (f : BitVec 40) (s : State), pack f = r → s.actVariant = v → validate r = true → r.b2 = 0x80#8 → r.b3 = 0x00#8 →
      tempX10Value (complete f s) = 0x00010000#32 ∧ tempF32Value (complete f s) = 0x80000000#32

/-- R187: for every tenths value the block can hold, RNE32 gives the binary32 number nearest to the exact quotient: no finite
pattern is nearer, and where another is as near, RNE32's is the even one. -/
def Obligations.TenthsAreCorrectlyRounded : Prop :=
  ∀ k : Nat, k ≤ 65535 →
    f32Finite (rne32 k 10) = true ∧ (rne32 k 10).getLsbD 31 = false ∧
    ∀ b : Word, f32Finite b = true →
      natDist (10 * f32Units (rne32 k 10)) (k * 2 ^ 149) ≤ natDist (10 * f32Units b) (k * 2 ^ 149) ∧
      (natDist (10 * f32Units b) (k * 2 ^ 149) = natDist (10 * f32Units (rne32 k 10)) (k * 2 ^ 149) →
        f32Units b ≠ f32Units (rne32 k 10) → (rne32 k 10).getLsbD 0 = false)

/-- R188: every nonzero result is a normal number from 0.1 to 6553.5, 0 gives +0.0, and multiples of ten tenths are exact
integers. -/
def Obligations.TenthsRange : Prop :=
  rne32 0 10 = 0#32 ∧
  (∀ k : Nat, 1 ≤ k → k ≤ 65535 →
    0x3DCCCCCD ≤ (rne32 k 10).toNat ∧ (rne32 k 10).toNat ≤ 0x45CCCC00 ∧
    1 ≤ ((rne32 k 10).extractLsb' 23 8).toNat ∧ ((rne32 k 10).extractLsb' 23 8).toNat < 255) ∧
  (∀ j : Nat, 10 * j ≤ 65535 → f32Units (rne32 (10 * j) 10) = j * 2 ^ 149)

/-- R182, R187: completion, in the edge that decodes bit 39: a valid frame writes every result register, sets DONE and enters
DONE; an invalid one writes none and fails with CHECKSUM_MISMATCH. That entering DONE keeps tcnt, bitidx and low_dur is the
model's reading (log 7, DEDUCED: R167 and R182 write none of them, a comment of R144 has the caller clear tcnt). -/
def Obligations.CompletionWritesTheResults : Prop :=
  ∀ (f : BitVec 40) (s : State),
    let r := pack f
    let v := convert r s.actVariant
    (validate r = true → complete f s =
      { s with
        frame := f, raw := f, valid := true, humX10 := v.humX10, tempMag := v.tempMag, tempNeg := v.tempNeg
        humF32 := rne32 v.humX10.toNat 10
        tempF32 := BitVec.ofBool v.tempNeg ++ (rne32 v.tempMag.toNat 10).extractLsb' 0 31
        state := .done, doneF := true }) ∧
    (validate r = false → complete f s =
      { s with
        frame := f, state := .fail, errCode := .checksumMismatch, errBit := 0#6, tcnt := 0, padOeR := false
        doneF := true })

/-! ### Invariants and bounds -/

/-- R51, R237: the invariants hold after reset. -/
def Obligations.InvariantsHoldAtReset : Prop :=
  Inv State.reset ∧ CounterFits State.reset ∧ PhaseFits State.reset

/-- R51, R237: every step keeps the invariants, from every state that has them. -/
def Obligations.StepKeepsTheInvariants : Prop :=
  ∀ s t : State, Inv s → step s = .next t → Inv t

/-- R27, R28, R29: the phase counter and the low duration never outgrow their TCNT_W bits (natural numbers, log 9); and while
busy, the bit index stays within 0 to 39 and the phase counter below its phase's bound: RESET_LEN (R162), or LAST(T) (R147,
R149), taken as one tick where LAST(T) is 0, which is the model's reading (log 8, DEDUCED). -/
def Obligations.CountersStayInRange : Prop :=
  ∀ s t : State, step s = .next t → (CounterFits s → CounterFits t) ∧ (PhaseFits s → PhaseFits t)

/-- R174, R243: a read in flight ends once enough ticks have come, whatever the host writes and whatever the line shows,
provided no reset comes; it ends in DONE or FAIL. The ticks left count one tick for a wait with no sample point, which is the
model's reading (log 8, DEDUCED: R149's bound is 0 there). -/
def Obligations.EveryReadEnds : Prop :=
  ∀ s : State, s.par.Legal → s.busy = true → PhaseFits s → (∀ e ∈ s.inputs, e.rst = false) →
    ticksLeft s ≤ countTicks s.inputs →
    ∃ n t, n ≤ s.inputs.length ∧ runEdges n s = .next t ∧ (t.state = .done ∨ t.state = .fail)

/-- R174: a read just accepted ends within RESET_LEN + LAST(T_ACK1) + LAST(T_ACK2) + LAST(T_ACK3) + 40 × (LAST(T_BIT_LOW) +
LAST(T_BIT_HIGH)) ticks, where every wait has a sample point (log 8); 25736 and 6236 ticks with the defaults. -/
def Obligations.ReadEndsWithinItsBound : Prop :=
  (∀ s : State, s.par.Legal → WaitsSample s.par → s.state = .reset → s.tcnt = 0 → s.bitidx = 0#6 →
    (∀ e ∈ s.inputs, e.rst = false) → readBound s.par s.actVariant ≤ countTicks s.inputs →
    ∃ n t, n ≤ s.inputs.length ∧ runEdges n s = .next t ∧ (t.state = .done ∨ t.state = .fail)) ∧
  readBound Config.defaultParams .dht11 = 25736 ∧ readBound Config.defaultParams .dht22 = 25736 ∧
  readBound Config.defaultParams .si7021 = 6236

/-- R174: a read just accepted is not DONE before RESET_LEN + 3P + 80P ticks. -/
def Obligations.SuccessfulReadTakesAtLeast : Prop :=
  ∀ (s t : State) (n : Nat), s.par.Legal → s.state = .reset → s.tcnt = 0 → (∀ e ∈ s.inputs, e.rst = false) →
    n ≤ s.inputs.length → runEdges n s = .next t → t.state = .done →
    resetLen s.par s.actVariant + 3 * s.par.tickUs + 80 * s.par.tickUs ≤ countTicks (s.inputs.take n)

/-! ### Several blocks -/

/-- R83, R215, R70: blocks are independent: what one block does in an edge does not depend on the other slots or pads, nor on
a transaction outside its own window of 128 bytes. The first clause ranges over slots whose windows overlap too: there both
blocks see the transaction, which is the model's choice (log 11), the rules giving each block a window of its own. -/
def Obligations.BlocksAreIndependent : Prop :=
  (∀ (e : SystemIn) (pads pads' : List PadIn) (slots slots' : List Slot) (k : Nat),
    pads[k]? = pads'[k]? → slots[k]? = slots'[k]? →
      (systemStep e pads slots)[k]? = (systemStep e pads' slots')[k]?) ∧
  (∀ (e : SystemIn) (p : PadIn) (b : Slot), (e.busAddr < b.base ∨ b.base + 128 ≤ e.busAddr) →
    slotStep e p b = slotStep { e with busValid := false } p b)
end

