-- ==== Sys2Proof/Laws/Encode.lean ====
section
/-! SUPPORT. The fields of a transaction word are what it was made of (spec/30_encoding.md R90). -/

namespace Sys2Proof

@[simp] theorem twWe_mkTW (we : Bool) (a : Offset) (d : Word) : twWe (mkTW we a d) = we := by
  cases we <;> simp only [twWe, mkTW, BitVec.getLsbD_append, BitVec.ofBool_false, BitVec.ofBool_true] <;> simp

@[simp] theorem twAddr_mkTW (we : Bool) (a : Offset) (d : Word) : twAddr (mkTW we a d) = a := by
  apply BitVec.eq_of_getLsbD_eq
  intro i hi
  have h1 : ¬ 32 + i < 32 := by omega
  simp only [twAddr, mkTW, BitVec.getLsbD_extractLsb', BitVec.getLsbD_append, h1, hi, decide_true, Bool.true_and,
    if_false, if_true, Nat.add_sub_cancel_left]

@[simp] theorem twData_mkTW (we : Bool) (a : Offset) (d : Word) : twData (mkTW we a d) = d := by
  apply BitVec.eq_of_getLsbD_eq
  intro i hi
  simp only [twData, mkTW, BitVec.getLsbD_extractLsb', BitVec.getLsbD_append, hi, decide_true, Bool.true_and,
    if_true, Nat.zero_add]

/-- A word is what its three fields make. -/
theorem mkTW_fields (w : TW) : mkTW (twWe w) (twAddr w) (twData w) = w := by
  apply BitVec.eq_of_getLsbD_eq
  intro i hi
  simp only [mkTW, twWe, twAddr, twData, BitVec.getLsbD_append, BitVec.getLsbD_extractLsb']
  by_cases h1 : i < 32
  · simp [h1]
  · by_cases h2 : i - 32 < 7
    · simp only [h1, h2, if_false, if_true, decide_true, Bool.true_and]
      congr 1
      omega
    · have h3 : i = 39 := by omega
      subst h3
      simp

/-- The decoder reads the three fields and nothing else (R94). -/
theorem decode_mkTW (we : Bool) (a : Offset) (d : Word) :
    decode (mkTW we a d) = if we then decodeWrite a d else decodeRead a := by
  simp only [decode, twWe_mkTW, twAddr_mkTW, twData_mkTW]

end Sys2Proof
end

