-- ==== Sys2Proof/Laws/Assembler.lean ====
section
/-! SUPPORT. What the assembler forms of spec/30_encoding.md R99 and R100 place on the bus. -/

namespace Sys2Proof.Machine

/-- The pins of the coming edge are those seen 0 edges ahead. -/
theorem edgeAhead_zero (s : State) : edgeAhead s 0 = edgeInput s := by
  unfold edgeAhead edgeInput
  cases s.inputs <;> rfl

/-- The first `n` edges of a `WAIT n` are the agents' own, without a transaction. -/
theorem asmWait_getElem (n : Nat) (s : State) {j : Nat} (h : j < n) :
    (asmWait n s).inputs[j]? = some (idleEdge (edgeAhead s j)) := by
  simp [asmWait, List.getElem?_append, h]

/-- Each of the `n` edges of a `WAIT n` is there, and carries no transaction, whatever was listed before. -/
theorem asmWait_no_transaction (n : Nat) (s : State) {j : Nat} (h : j < n) :
    ∃ e, (asmWait n s).inputs[j]? = some e ∧ busTransaction e = none :=
  ⟨_, asmWait_getElem n s h, rfl⟩

/-- The edges after a `WAIT n` show what they showed before it. -/
theorem asmWait_after (n : Nat) (s : State) (k : Nat) : (asmWait n s).inputs[n + k]? = s.inputs[n + k]? := by
  simp [asmWait, List.getElem?_append]

/-- The edge of an issued word carries that word, and its other pins are the agents' own. -/
theorem asmIssue_edge (w : TW) (s : State) :
    edgeInput (asmIssue w s) = carry w (edgeInput s) ∧ busTransaction (edgeInput (asmIssue w s)) = some w := by
  constructor
  · exact congrArg (carry w) (edgeAhead_zero s)
  · simp [asmIssue, edgeInput, busTransaction, carry, mkTW_fields]

end Sys2Proof.Machine
end

