-- ==== Sys2Proof/Laws/State.lean ====
section
/-! SUPPORT. For each named update of State and each field, what the update leaves in it, so that no later proof unfolds a
record update. Two lemmas on `mergeFlag` first (spec/40_host_commands.md R110). -/

namespace Sys2Proof.Machine

@[simp] theorem mergeFlag_set (f clear : Bool) : mergeFlag f clear true = true := by
  simp [mergeFlag]

@[simp] theorem mergeFlag_keep (f : Bool) : mergeFlag f false false = f := by
  simp [mergeFlag]

@[simp] theorem mergeFlag_clear (f : Bool) : mergeFlag f true false = false := by
  simp [mergeFlag]

/-! ### `respond` -/

@[simp] theorem respond_state (v : Word) (s : State) : (respond v s).state = s.state := rfl
@[simp] theorem respond_tcnt (v : Word) (s : State) : (respond v s).tcnt = s.tcnt := rfl
@[simp] theorem respond_bitidx (v : Word) (s : State) : (respond v s).bitidx = s.bitidx := rfl
@[simp] theorem respond_lowDur (v : Word) (s : State) : (respond v s).lowDur = s.lowDur := rfl
@[simp] theorem respond_frame (v : Word) (s : State) : (respond v s).frame = s.frame := rfl
@[simp] theorem respond_actVariant (v : Word) (s : State) : (respond v s).actVariant = s.actVariant := rfl
@[simp] theorem respond_padOeR (v : Word) (s : State) : (respond v s).padOeR = s.padOeR := rfl
@[simp] theorem respond_padOdR (v : Word) (s : State) : (respond v s).padOdR = s.padOdR := rfl
@[simp] theorem respond_padPuR (v : Word) (s : State) : (respond v s).padPuR = s.padPuR := rfl
@[simp] theorem respond_initDone (v : Word) (s : State) : (respond v s).initDone = s.initDone := rfl
@[simp] theorem respond_cfgErr (v : Word) (s : State) : (respond v s).cfgErr = s.cfgErr := rfl
@[simp] theorem respond_valid (v : Word) (s : State) : (respond v s).valid = s.valid := rfl
@[simp] theorem respond_raw (v : Word) (s : State) : (respond v s).raw = s.raw := rfl
@[simp] theorem respond_humX10 (v : Word) (s : State) : (respond v s).humX10 = s.humX10 := rfl
@[simp] theorem respond_tempMag (v : Word) (s : State) : (respond v s).tempMag = s.tempMag := rfl
@[simp] theorem respond_tempNeg (v : Word) (s : State) : (respond v s).tempNeg = s.tempNeg := rfl
@[simp] theorem respond_humF32 (v : Word) (s : State) : (respond v s).humF32 = s.humF32 := rfl
@[simp] theorem respond_tempF32 (v : Word) (s : State) : (respond v s).tempF32 = s.tempF32 := rfl
@[simp] theorem respond_errCode (v : Word) (s : State) : (respond v s).errCode = s.errCode := rfl
@[simp] theorem respond_errBit (v : Word) (s : State) : (respond v s).errBit = s.errBit := rfl
@[simp] theorem respond_doneF (v : Word) (s : State) : (respond v s).doneF = s.doneF := rfl
@[simp] theorem respond_ovrF (v : Word) (s : State) : (respond v s).ovrF = s.ovrF := rfl
@[simp] theorem respond_cmderrF (v : Word) (s : State) : (respond v s).cmderrF = s.cmderrF := rfl
@[simp] theorem respond_ctrlVariant (v : Word) (s : State) : (respond v s).ctrlVariant = s.ctrlVariant := rfl
@[simp] theorem respond_ctrlPu (v : Word) (s : State) : (respond v s).ctrlPu = s.ctrlPu := rfl
@[simp] theorem respond_ctrlIe (v : Word) (s : State) : (respond v s).ctrlIe = s.ctrlIe := rfl
@[simp] theorem respond_busRdata (v : Word) (s : State) : (respond v s).busRdata = v := rfl
@[simp] theorem respond_padCfgReq (v : Word) (s : State) : (respond v s).padCfgReq = false := rfl
@[simp] theorem respond_padCfgPu (v : Word) (s : State) : (respond v s).padCfgPu = false := rfl
@[simp] theorem respond_par (v : Word) (s : State) : (respond v s).par = s.par := rfl
@[simp] theorem respond_inputs (v : Word) (s : State) : (respond v s).inputs = s.inputs := rfl
@[simp] theorem respond_edges (v : Word) (s : State) : (respond v s).edges = s.edges := rfl

/-! ### `advance` -/

@[simp] theorem advance_state (s : State) : (advance s).state = s.state := rfl
@[simp] theorem advance_tcnt (s : State) : (advance s).tcnt = s.tcnt := rfl
@[simp] theorem advance_bitidx (s : State) : (advance s).bitidx = s.bitidx := rfl
@[simp] theorem advance_lowDur (s : State) : (advance s).lowDur = s.lowDur := rfl
@[simp] theorem advance_frame (s : State) : (advance s).frame = s.frame := rfl
@[simp] theorem advance_actVariant (s : State) : (advance s).actVariant = s.actVariant := rfl
@[simp] theorem advance_padOeR (s : State) : (advance s).padOeR = s.padOeR := rfl
@[simp] theorem advance_padOdR (s : State) : (advance s).padOdR = s.padOdR := rfl
@[simp] theorem advance_padPuR (s : State) : (advance s).padPuR = s.padPuR := rfl
@[simp] theorem advance_initDone (s : State) : (advance s).initDone = s.initDone := rfl
@[simp] theorem advance_cfgErr (s : State) : (advance s).cfgErr = s.cfgErr := rfl
@[simp] theorem advance_valid (s : State) : (advance s).valid = s.valid := rfl
@[simp] theorem advance_raw (s : State) : (advance s).raw = s.raw := rfl
@[simp] theorem advance_humX10 (s : State) : (advance s).humX10 = s.humX10 := rfl
@[simp] theorem advance_tempMag (s : State) : (advance s).tempMag = s.tempMag := rfl
@[simp] theorem advance_tempNeg (s : State) : (advance s).tempNeg = s.tempNeg := rfl
@[simp] theorem advance_humF32 (s : State) : (advance s).humF32 = s.humF32 := rfl
@[simp] theorem advance_tempF32 (s : State) : (advance s).tempF32 = s.tempF32 := rfl
@[simp] theorem advance_errCode (s : State) : (advance s).errCode = s.errCode := rfl
@[simp] theorem advance_errBit (s : State) : (advance s).errBit = s.errBit := rfl
@[simp] theorem advance_doneF (s : State) : (advance s).doneF = s.doneF := rfl
@[simp] theorem advance_ovrF (s : State) : (advance s).ovrF = s.ovrF := rfl
@[simp] theorem advance_cmderrF (s : State) : (advance s).cmderrF = s.cmderrF := rfl
@[simp] theorem advance_ctrlVariant (s : State) : (advance s).ctrlVariant = s.ctrlVariant := rfl
@[simp] theorem advance_ctrlPu (s : State) : (advance s).ctrlPu = s.ctrlPu := rfl
@[simp] theorem advance_ctrlIe (s : State) : (advance s).ctrlIe = s.ctrlIe := rfl
@[simp] theorem advance_busRdata (s : State) : (advance s).busRdata = s.busRdata := rfl
@[simp] theorem advance_padCfgReq (s : State) : (advance s).padCfgReq = s.padCfgReq := rfl
@[simp] theorem advance_padCfgPu (s : State) : (advance s).padCfgPu = s.padCfgPu := rfl
@[simp] theorem advance_par (s : State) : (advance s).par = s.par := rfl
@[simp] theorem advance_inputs (s : State) : (advance s).inputs = s.inputs.tail := rfl
@[simp] theorem advance_edges (s : State) : (advance s).edges = s.edges + 1 := rfl

/-! ### `drive` -/

@[simp] theorem drive_state (l : Bool) (s : State) : (drive l s).state = s.state := rfl
@[simp] theorem drive_tcnt (l : Bool) (s : State) : (drive l s).tcnt = s.tcnt := rfl
@[simp] theorem drive_bitidx (l : Bool) (s : State) : (drive l s).bitidx = s.bitidx := rfl
@[simp] theorem drive_lowDur (l : Bool) (s : State) : (drive l s).lowDur = s.lowDur := rfl
@[simp] theorem drive_frame (l : Bool) (s : State) : (drive l s).frame = s.frame := rfl
@[simp] theorem drive_actVariant (l : Bool) (s : State) : (drive l s).actVariant = s.actVariant := rfl
@[simp] theorem drive_padOeR (l : Bool) (s : State) : (drive l s).padOeR = !l := rfl
@[simp] theorem drive_padOdR (l : Bool) (s : State) : (drive l s).padOdR = s.padOdR := rfl
@[simp] theorem drive_padPuR (l : Bool) (s : State) : (drive l s).padPuR = s.padPuR := rfl
@[simp] theorem drive_initDone (l : Bool) (s : State) : (drive l s).initDone = s.initDone := rfl
@[simp] theorem drive_cfgErr (l : Bool) (s : State) : (drive l s).cfgErr = s.cfgErr := rfl
@[simp] theorem drive_valid (l : Bool) (s : State) : (drive l s).valid = s.valid := rfl
@[simp] theorem drive_raw (l : Bool) (s : State) : (drive l s).raw = s.raw := rfl
@[simp] theorem drive_humX10 (l : Bool) (s : State) : (drive l s).humX10 = s.humX10 := rfl
@[simp] theorem drive_tempMag (l : Bool) (s : State) : (drive l s).tempMag = s.tempMag := rfl
@[simp] theorem drive_tempNeg (l : Bool) (s : State) : (drive l s).tempNeg = s.tempNeg := rfl
@[simp] theorem drive_humF32 (l : Bool) (s : State) : (drive l s).humF32 = s.humF32 := rfl
@[simp] theorem drive_tempF32 (l : Bool) (s : State) : (drive l s).tempF32 = s.tempF32 := rfl
@[simp] theorem drive_errCode (l : Bool) (s : State) : (drive l s).errCode = s.errCode := rfl
@[simp] theorem drive_errBit (l : Bool) (s : State) : (drive l s).errBit = s.errBit := rfl
@[simp] theorem drive_doneF (l : Bool) (s : State) : (drive l s).doneF = s.doneF := rfl
@[simp] theorem drive_ovrF (l : Bool) (s : State) : (drive l s).ovrF = s.ovrF := rfl
@[simp] theorem drive_cmderrF (l : Bool) (s : State) : (drive l s).cmderrF = s.cmderrF := rfl
@[simp] theorem drive_ctrlVariant (l : Bool) (s : State) : (drive l s).ctrlVariant = s.ctrlVariant := rfl
@[simp] theorem drive_ctrlPu (l : Bool) (s : State) : (drive l s).ctrlPu = s.ctrlPu := rfl
@[simp] theorem drive_ctrlIe (l : Bool) (s : State) : (drive l s).ctrlIe = s.ctrlIe := rfl
@[simp] theorem drive_busRdata (l : Bool) (s : State) : (drive l s).busRdata = s.busRdata := rfl
@[simp] theorem drive_padCfgReq (l : Bool) (s : State) : (drive l s).padCfgReq = s.padCfgReq := rfl
@[simp] theorem drive_padCfgPu (l : Bool) (s : State) : (drive l s).padCfgPu = s.padCfgPu := rfl
@[simp] theorem drive_par (l : Bool) (s : State) : (drive l s).par = s.par := rfl
@[simp] theorem drive_inputs (l : Bool) (s : State) : (drive l s).inputs = s.inputs := rfl
@[simp] theorem drive_edges (l : Bool) (s : State) : (drive l s).edges = s.edges := rfl

/-! ### `setOvr` -/

@[simp] theorem setOvr_state (s : State) : (setOvr s).state = s.state := rfl
@[simp] theorem setOvr_tcnt (s : State) : (setOvr s).tcnt = s.tcnt := rfl
@[simp] theorem setOvr_bitidx (s : State) : (setOvr s).bitidx = s.bitidx := rfl
@[simp] theorem setOvr_lowDur (s : State) : (setOvr s).lowDur = s.lowDur := rfl
@[simp] theorem setOvr_frame (s : State) : (setOvr s).frame = s.frame := rfl
@[simp] theorem setOvr_actVariant (s : State) : (setOvr s).actVariant = s.actVariant := rfl
@[simp] theorem setOvr_padOeR (s : State) : (setOvr s).padOeR = s.padOeR := rfl
@[simp] theorem setOvr_padOdR (s : State) : (setOvr s).padOdR = s.padOdR := rfl
@[simp] theorem setOvr_padPuR (s : State) : (setOvr s).padPuR = s.padPuR := rfl
@[simp] theorem setOvr_initDone (s : State) : (setOvr s).initDone = s.initDone := rfl
@[simp] theorem setOvr_cfgErr (s : State) : (setOvr s).cfgErr = s.cfgErr := rfl
@[simp] theorem setOvr_valid (s : State) : (setOvr s).valid = s.valid := rfl
@[simp] theorem setOvr_raw (s : State) : (setOvr s).raw = s.raw := rfl
@[simp] theorem setOvr_humX10 (s : State) : (setOvr s).humX10 = s.humX10 := rfl
@[simp] theorem setOvr_tempMag (s : State) : (setOvr s).tempMag = s.tempMag := rfl
@[simp] theorem setOvr_tempNeg (s : State) : (setOvr s).tempNeg = s.tempNeg := rfl
@[simp] theorem setOvr_humF32 (s : State) : (setOvr s).humF32 = s.humF32 := rfl
@[simp] theorem setOvr_tempF32 (s : State) : (setOvr s).tempF32 = s.tempF32 := rfl
@[simp] theorem setOvr_errCode (s : State) : (setOvr s).errCode = s.errCode := rfl
@[simp] theorem setOvr_errBit (s : State) : (setOvr s).errBit = s.errBit := rfl
@[simp] theorem setOvr_doneF (s : State) : (setOvr s).doneF = s.doneF := rfl
@[simp] theorem setOvr_ovrF (s : State) : (setOvr s).ovrF = true := by
  simp [setOvr]
@[simp] theorem setOvr_cmderrF (s : State) : (setOvr s).cmderrF = s.cmderrF := rfl
@[simp] theorem setOvr_ctrlVariant (s : State) : (setOvr s).ctrlVariant = s.ctrlVariant := rfl
@[simp] theorem setOvr_ctrlPu (s : State) : (setOvr s).ctrlPu = s.ctrlPu := rfl
@[simp] theorem setOvr_ctrlIe (s : State) : (setOvr s).ctrlIe = s.ctrlIe := rfl
@[simp] theorem setOvr_busRdata (s : State) : (setOvr s).busRdata = s.busRdata := rfl
@[simp] theorem setOvr_padCfgReq (s : State) : (setOvr s).padCfgReq = s.padCfgReq := rfl
@[simp] theorem setOvr_padCfgPu (s : State) : (setOvr s).padCfgPu = s.padCfgPu := rfl
@[simp] theorem setOvr_par (s : State) : (setOvr s).par = s.par := rfl
@[simp] theorem setOvr_inputs (s : State) : (setOvr s).inputs = s.inputs := rfl
@[simp] theorem setOvr_edges (s : State) : (setOvr s).edges = s.edges := rfl

/-! ### `setCmderr` -/

@[simp] theorem setCmderr_state (s : State) : (setCmderr s).state = s.state := rfl
@[simp] theorem setCmderr_tcnt (s : State) : (setCmderr s).tcnt = s.tcnt := rfl
@[simp] theorem setCmderr_bitidx (s : State) : (setCmderr s).bitidx = s.bitidx := rfl
@[simp] theorem setCmderr_lowDur (s : State) : (setCmderr s).lowDur = s.lowDur := rfl
@[simp] theorem setCmderr_frame (s : State) : (setCmderr s).frame = s.frame := rfl
@[simp] theorem setCmderr_actVariant (s : State) : (setCmderr s).actVariant = s.actVariant := rfl
@[simp] theorem setCmderr_padOeR (s : State) : (setCmderr s).padOeR = s.padOeR := rfl
@[simp] theorem setCmderr_padOdR (s : State) : (setCmderr s).padOdR = s.padOdR := rfl
@[simp] theorem setCmderr_padPuR (s : State) : (setCmderr s).padPuR = s.padPuR := rfl
@[simp] theorem setCmderr_initDone (s : State) : (setCmderr s).initDone = s.initDone := rfl
@[simp] theorem setCmderr_cfgErr (s : State) : (setCmderr s).cfgErr = s.cfgErr := rfl
@[simp] theorem setCmderr_valid (s : State) : (setCmderr s).valid = s.valid := rfl
@[simp] theorem setCmderr_raw (s : State) : (setCmderr s).raw = s.raw := rfl
@[simp] theorem setCmderr_humX10 (s : State) : (setCmderr s).humX10 = s.humX10 := rfl
@[simp] theorem setCmderr_tempMag (s : State) : (setCmderr s).tempMag = s.tempMag := rfl
@[simp] theorem setCmderr_tempNeg (s : State) : (setCmderr s).tempNeg = s.tempNeg := rfl
@[simp] theorem setCmderr_humF32 (s : State) : (setCmderr s).humF32 = s.humF32 := rfl
@[simp] theorem setCmderr_tempF32 (s : State) : (setCmderr s).tempF32 = s.tempF32 := rfl
@[simp] theorem setCmderr_errCode (s : State) : (setCmderr s).errCode = s.errCode := rfl
@[simp] theorem setCmderr_errBit (s : State) : (setCmderr s).errBit = s.errBit := rfl
@[simp] theorem setCmderr_doneF (s : State) : (setCmderr s).doneF = s.doneF := rfl
@[simp] theorem setCmderr_ovrF (s : State) : (setCmderr s).ovrF = s.ovrF := rfl
@[simp] theorem setCmderr_cmderrF (s : State) : (setCmderr s).cmderrF = true := by
  simp [setCmderr]
@[simp] theorem setCmderr_ctrlVariant (s : State) : (setCmderr s).ctrlVariant = s.ctrlVariant := rfl
@[simp] theorem setCmderr_ctrlPu (s : State) : (setCmderr s).ctrlPu = s.ctrlPu := rfl
@[simp] theorem setCmderr_ctrlIe (s : State) : (setCmderr s).ctrlIe = s.ctrlIe := rfl
@[simp] theorem setCmderr_busRdata (s : State) : (setCmderr s).busRdata = s.busRdata := rfl
@[simp] theorem setCmderr_padCfgReq (s : State) : (setCmderr s).padCfgReq = s.padCfgReq := rfl
@[simp] theorem setCmderr_padCfgPu (s : State) : (setCmderr s).padCfgPu = s.padCfgPu := rfl
@[simp] theorem setCmderr_par (s : State) : (setCmderr s).par = s.par := rfl
@[simp] theorem setCmderr_inputs (s : State) : (setCmderr s).inputs = s.inputs := rfl
@[simp] theorem setCmderr_edges (s : State) : (setCmderr s).edges = s.edges := rfl

/-! ### `setDone` -/

@[simp] theorem setDone_state (s : State) : (setDone s).state = s.state := rfl
@[simp] theorem setDone_tcnt (s : State) : (setDone s).tcnt = s.tcnt := rfl
@[simp] theorem setDone_bitidx (s : State) : (setDone s).bitidx = s.bitidx := rfl
@[simp] theorem setDone_lowDur (s : State) : (setDone s).lowDur = s.lowDur := rfl
@[simp] theorem setDone_frame (s : State) : (setDone s).frame = s.frame := rfl
@[simp] theorem setDone_actVariant (s : State) : (setDone s).actVariant = s.actVariant := rfl
@[simp] theorem setDone_padOeR (s : State) : (setDone s).padOeR = s.padOeR := rfl
@[simp] theorem setDone_padOdR (s : State) : (setDone s).padOdR = s.padOdR := rfl
@[simp] theorem setDone_padPuR (s : State) : (setDone s).padPuR = s.padPuR := rfl
@[simp] theorem setDone_initDone (s : State) : (setDone s).initDone = s.initDone := rfl
@[simp] theorem setDone_cfgErr (s : State) : (setDone s).cfgErr = s.cfgErr := rfl
@[simp] theorem setDone_valid (s : State) : (setDone s).valid = s.valid := rfl
@[simp] theorem setDone_raw (s : State) : (setDone s).raw = s.raw := rfl
@[simp] theorem setDone_humX10 (s : State) : (setDone s).humX10 = s.humX10 := rfl
@[simp] theorem setDone_tempMag (s : State) : (setDone s).tempMag = s.tempMag := rfl
@[simp] theorem setDone_tempNeg (s : State) : (setDone s).tempNeg = s.tempNeg := rfl
@[simp] theorem setDone_humF32 (s : State) : (setDone s).humF32 = s.humF32 := rfl
@[simp] theorem setDone_tempF32 (s : State) : (setDone s).tempF32 = s.tempF32 := rfl
@[simp] theorem setDone_errCode (s : State) : (setDone s).errCode = s.errCode := rfl
@[simp] theorem setDone_errBit (s : State) : (setDone s).errBit = s.errBit := rfl
@[simp] theorem setDone_doneF (s : State) : (setDone s).doneF = true := by
  simp [setDone]
@[simp] theorem setDone_ovrF (s : State) : (setDone s).ovrF = s.ovrF := rfl
@[simp] theorem setDone_cmderrF (s : State) : (setDone s).cmderrF = s.cmderrF := rfl
@[simp] theorem setDone_ctrlVariant (s : State) : (setDone s).ctrlVariant = s.ctrlVariant := rfl
@[simp] theorem setDone_ctrlPu (s : State) : (setDone s).ctrlPu = s.ctrlPu := rfl
@[simp] theorem setDone_ctrlIe (s : State) : (setDone s).ctrlIe = s.ctrlIe := rfl
@[simp] theorem setDone_busRdata (s : State) : (setDone s).busRdata = s.busRdata := rfl
@[simp] theorem setDone_padCfgReq (s : State) : (setDone s).padCfgReq = s.padCfgReq := rfl
@[simp] theorem setDone_padCfgPu (s : State) : (setDone s).padCfgPu = s.padCfgPu := rfl
@[simp] theorem setDone_par (s : State) : (setDone s).par = s.par := rfl
@[simp] theorem setDone_inputs (s : State) : (setDone s).inputs = s.inputs := rfl
@[simp] theorem setDone_edges (s : State) : (setDone s).edges = s.edges := rfl

/-! ### `clearFlags` -/

@[simp] theorem clearFlags_state (a b c : Bool) (s : State) : (clearFlags a b c s).state = s.state := rfl
@[simp] theorem clearFlags_tcnt (a b c : Bool) (s : State) : (clearFlags a b c s).tcnt = s.tcnt := rfl
@[simp] theorem clearFlags_bitidx (a b c : Bool) (s : State) : (clearFlags a b c s).bitidx = s.bitidx := rfl
@[simp] theorem clearFlags_lowDur (a b c : Bool) (s : State) : (clearFlags a b c s).lowDur = s.lowDur := rfl
@[simp] theorem clearFlags_frame (a b c : Bool) (s : State) : (clearFlags a b c s).frame = s.frame := rfl
@[simp] theorem clearFlags_actVariant (a b c : Bool) (s : State) : (clearFlags a b c s).actVariant = s.actVariant := rfl
@[simp] theorem clearFlags_padOeR (a b c : Bool) (s : State) : (clearFlags a b c s).padOeR = s.padOeR := rfl
@[simp] theorem clearFlags_padOdR (a b c : Bool) (s : State) : (clearFlags a b c s).padOdR = s.padOdR := rfl
@[simp] theorem clearFlags_padPuR (a b c : Bool) (s : State) : (clearFlags a b c s).padPuR = s.padPuR := rfl
@[simp] theorem clearFlags_initDone (a b c : Bool) (s : State) : (clearFlags a b c s).initDone = s.initDone := rfl
@[simp] theorem clearFlags_cfgErr (a b c : Bool) (s : State) : (clearFlags a b c s).cfgErr = s.cfgErr := rfl
@[simp] theorem clearFlags_valid (a b c : Bool) (s : State) : (clearFlags a b c s).valid = s.valid := rfl
@[simp] theorem clearFlags_raw (a b c : Bool) (s : State) : (clearFlags a b c s).raw = s.raw := rfl
@[simp] theorem clearFlags_humX10 (a b c : Bool) (s : State) : (clearFlags a b c s).humX10 = s.humX10 := rfl
@[simp] theorem clearFlags_tempMag (a b c : Bool) (s : State) : (clearFlags a b c s).tempMag = s.tempMag := rfl
@[simp] theorem clearFlags_tempNeg (a b c : Bool) (s : State) : (clearFlags a b c s).tempNeg = s.tempNeg := rfl
@[simp] theorem clearFlags_humF32 (a b c : Bool) (s : State) : (clearFlags a b c s).humF32 = s.humF32 := rfl
@[simp] theorem clearFlags_tempF32 (a b c : Bool) (s : State) : (clearFlags a b c s).tempF32 = s.tempF32 := rfl
@[simp] theorem clearFlags_errCode (a b c : Bool) (s : State) : (clearFlags a b c s).errCode = s.errCode := rfl
@[simp] theorem clearFlags_errBit (a b c : Bool) (s : State) : (clearFlags a b c s).errBit = s.errBit := rfl
@[simp] theorem clearFlags_doneF (a b c : Bool) (s : State) : (clearFlags a b c s).doneF = mergeFlag s.doneF a false := rfl
@[simp] theorem clearFlags_ovrF (a b c : Bool) (s : State) : (clearFlags a b c s).ovrF = mergeFlag s.ovrF b false := rfl
@[simp] theorem clearFlags_cmderrF (a b c : Bool) (s : State) : (clearFlags a b c s).cmderrF = mergeFlag s.cmderrF c false := rfl
@[simp] theorem clearFlags_ctrlVariant (a b c : Bool) (s : State) : (clearFlags a b c s).ctrlVariant = s.ctrlVariant := rfl
@[simp] theorem clearFlags_ctrlPu (a b c : Bool) (s : State) : (clearFlags a b c s).ctrlPu = s.ctrlPu := rfl
@[simp] theorem clearFlags_ctrlIe (a b c : Bool) (s : State) : (clearFlags a b c s).ctrlIe = s.ctrlIe := rfl
@[simp] theorem clearFlags_busRdata (a b c : Bool) (s : State) : (clearFlags a b c s).busRdata = s.busRdata := rfl
@[simp] theorem clearFlags_padCfgReq (a b c : Bool) (s : State) : (clearFlags a b c s).padCfgReq = s.padCfgReq := rfl
@[simp] theorem clearFlags_padCfgPu (a b c : Bool) (s : State) : (clearFlags a b c s).padCfgPu = s.padCfgPu := rfl
@[simp] theorem clearFlags_par (a b c : Bool) (s : State) : (clearFlags a b c s).par = s.par := rfl
@[simp] theorem clearFlags_inputs (a b c : Bool) (s : State) : (clearFlags a b c s).inputs = s.inputs := rfl
@[simp] theorem clearFlags_edges (a b c : Bool) (s : State) : (clearFlags a b c s).edges = s.edges := rfl

/-! ### `storeCtrl` -/

@[simp] theorem storeCtrl_state (var : BitVec 2) (pu ie : Bool) (s : State) : (storeCtrl var pu ie s).state = s.state := rfl
@[simp] theorem storeCtrl_tcnt (var : BitVec 2) (pu ie : Bool) (s : State) : (storeCtrl var pu ie s).tcnt = s.tcnt := rfl
@[simp] theorem storeCtrl_bitidx (var : BitVec 2) (pu ie : Bool) (s : State) : (storeCtrl var pu ie s).bitidx = s.bitidx := rfl
@[simp] theorem storeCtrl_lowDur (var : BitVec 2) (pu ie : Bool) (s : State) : (storeCtrl var pu ie s).lowDur = s.lowDur := rfl
@[simp] theorem storeCtrl_frame (var : BitVec 2) (pu ie : Bool) (s : State) : (storeCtrl var pu ie s).frame = s.frame := rfl
@[simp] theorem storeCtrl_actVariant (var : BitVec 2) (pu ie : Bool) (s : State) : (storeCtrl var pu ie s).actVariant = s.actVariant := rfl
@[simp] theorem storeCtrl_padOeR (var : BitVec 2) (pu ie : Bool) (s : State) : (storeCtrl var pu ie s).padOeR = s.padOeR := rfl
@[simp] theorem storeCtrl_padOdR (var : BitVec 2) (pu ie : Bool) (s : State) : (storeCtrl var pu ie s).padOdR = s.padOdR := rfl
@[simp] theorem storeCtrl_padPuR (var : BitVec 2) (pu ie : Bool) (s : State) : (storeCtrl var pu ie s).padPuR = s.padPuR := rfl
@[simp] theorem storeCtrl_initDone (var : BitVec 2) (pu ie : Bool) (s : State) : (storeCtrl var pu ie s).initDone = s.initDone := rfl
@[simp] theorem storeCtrl_cfgErr (var : BitVec 2) (pu ie : Bool) (s : State) : (storeCtrl var pu ie s).cfgErr = s.cfgErr := rfl
@[simp] theorem storeCtrl_valid (var : BitVec 2) (pu ie : Bool) (s : State) : (storeCtrl var pu ie s).valid = s.valid := rfl
@[simp] theorem storeCtrl_raw (var : BitVec 2) (pu ie : Bool) (s : State) : (storeCtrl var pu ie s).raw = s.raw := rfl
@[simp] theorem storeCtrl_humX10 (var : BitVec 2) (pu ie : Bool) (s : State) : (storeCtrl var pu ie s).humX10 = s.humX10 := rfl
@[simp] theorem storeCtrl_tempMag (var : BitVec 2) (pu ie : Bool) (s : State) : (storeCtrl var pu ie s).tempMag = s.tempMag := rfl
@[simp] theorem storeCtrl_tempNeg (var : BitVec 2) (pu ie : Bool) (s : State) : (storeCtrl var pu ie s).tempNeg = s.tempNeg := rfl
@[simp] theorem storeCtrl_humF32 (var : BitVec 2) (pu ie : Bool) (s : State) : (storeCtrl var pu ie s).humF32 = s.humF32 := rfl
@[simp] theorem storeCtrl_tempF32 (var : BitVec 2) (pu ie : Bool) (s : State) : (storeCtrl var pu ie s).tempF32 = s.tempF32 := rfl
@[simp] theorem storeCtrl_errCode (var : BitVec 2) (pu ie : Bool) (s : State) : (storeCtrl var pu ie s).errCode = s.errCode := rfl
@[simp] theorem storeCtrl_errBit (var : BitVec 2) (pu ie : Bool) (s : State) : (storeCtrl var pu ie s).errBit = s.errBit := rfl
@[simp] theorem storeCtrl_doneF (var : BitVec 2) (pu ie : Bool) (s : State) : (storeCtrl var pu ie s).doneF = s.doneF := rfl
@[simp] theorem storeCtrl_ovrF (var : BitVec 2) (pu ie : Bool) (s : State) : (storeCtrl var pu ie s).ovrF = s.ovrF := rfl
@[simp] theorem storeCtrl_cmderrF (var : BitVec 2) (pu ie : Bool) (s : State) : (storeCtrl var pu ie s).cmderrF = s.cmderrF := rfl
@[simp] theorem storeCtrl_ctrlVariant (var : BitVec 2) (pu ie : Bool) (s : State) : (storeCtrl var pu ie s).ctrlVariant = var := rfl
@[simp] theorem storeCtrl_ctrlPu (var : BitVec 2) (pu ie : Bool) (s : State) : (storeCtrl var pu ie s).ctrlPu = pu := rfl
@[simp] theorem storeCtrl_ctrlIe (var : BitVec 2) (pu ie : Bool) (s : State) : (storeCtrl var pu ie s).ctrlIe = ie := rfl
@[simp] theorem storeCtrl_busRdata (var : BitVec 2) (pu ie : Bool) (s : State) : (storeCtrl var pu ie s).busRdata = s.busRdata := rfl
@[simp] theorem storeCtrl_padCfgReq (var : BitVec 2) (pu ie : Bool) (s : State) : (storeCtrl var pu ie s).padCfgReq = s.padCfgReq := rfl
@[simp] theorem storeCtrl_padCfgPu (var : BitVec 2) (pu ie : Bool) (s : State) : (storeCtrl var pu ie s).padCfgPu = s.padCfgPu := rfl
@[simp] theorem storeCtrl_par (var : BitVec 2) (pu ie : Bool) (s : State) : (storeCtrl var pu ie s).par = s.par := rfl
@[simp] theorem storeCtrl_inputs (var : BitVec 2) (pu ie : Bool) (s : State) : (storeCtrl var pu ie s).inputs = s.inputs := rfl
@[simp] theorem storeCtrl_edges (var : BitVec 2) (pu ie : Bool) (s : State) : (storeCtrl var pu ie s).edges = s.edges := rfl

/-! ### `configurePad` -/

@[simp] theorem configurePad_state (pu reject : Bool) (s : State) : (configurePad pu reject s).state = s.state := by
  cases reject <;> rfl
@[simp] theorem configurePad_tcnt (pu reject : Bool) (s : State) : (configurePad pu reject s).tcnt = s.tcnt := by
  cases reject <;> rfl
@[simp] theorem configurePad_bitidx (pu reject : Bool) (s : State) : (configurePad pu reject s).bitidx = s.bitidx := by
  cases reject <;> rfl
@[simp] theorem configurePad_lowDur (pu reject : Bool) (s : State) : (configurePad pu reject s).lowDur = s.lowDur := by
  cases reject <;> rfl
@[simp] theorem configurePad_frame (pu reject : Bool) (s : State) : (configurePad pu reject s).frame = s.frame := by
  cases reject <;> rfl
@[simp] theorem configurePad_actVariant (pu reject : Bool) (s : State) : (configurePad pu reject s).actVariant = s.actVariant := by
  cases reject <;> rfl
@[simp] theorem configurePad_padOeR (pu reject : Bool) (s : State) : (configurePad pu reject s).padOeR = false := by
  cases reject <;> rfl
@[simp] theorem configurePad_padOdR (pu reject : Bool) (s : State) : (configurePad pu reject s).padOdR = !reject := by
  cases reject <;> rfl
@[simp] theorem configurePad_padPuR (pu reject : Bool) (s : State) : (configurePad pu reject s).padPuR = (!reject && pu) := by
  cases reject <;> rfl
@[simp] theorem configurePad_initDone (pu reject : Bool) (s : State) : (configurePad pu reject s).initDone = s.initDone := by
  cases reject <;> rfl
@[simp] theorem configurePad_cfgErr (pu reject : Bool) (s : State) : (configurePad pu reject s).cfgErr = s.cfgErr := by
  cases reject <;> rfl
@[simp] theorem configurePad_valid (pu reject : Bool) (s : State) : (configurePad pu reject s).valid = s.valid := by
  cases reject <;> rfl
@[simp] theorem configurePad_raw (pu reject : Bool) (s : State) : (configurePad pu reject s).raw = s.raw := by
  cases reject <;> rfl
@[simp] theorem configurePad_humX10 (pu reject : Bool) (s : State) : (configurePad pu reject s).humX10 = s.humX10 := by
  cases reject <;> rfl
@[simp] theorem configurePad_tempMag (pu reject : Bool) (s : State) : (configurePad pu reject s).tempMag = s.tempMag := by
  cases reject <;> rfl
@[simp] theorem configurePad_tempNeg (pu reject : Bool) (s : State) : (configurePad pu reject s).tempNeg = s.tempNeg := by
  cases reject <;> rfl
@[simp] theorem configurePad_humF32 (pu reject : Bool) (s : State) : (configurePad pu reject s).humF32 = s.humF32 := by
  cases reject <;> rfl
@[simp] theorem configurePad_tempF32 (pu reject : Bool) (s : State) : (configurePad pu reject s).tempF32 = s.tempF32 := by
  cases reject <;> rfl
@[simp] theorem configurePad_errCode (pu reject : Bool) (s : State) : (configurePad pu reject s).errCode = s.errCode := by
  cases reject <;> rfl
@[simp] theorem configurePad_errBit (pu reject : Bool) (s : State) : (configurePad pu reject s).errBit = s.errBit := by
  cases reject <;> rfl
@[simp] theorem configurePad_doneF (pu reject : Bool) (s : State) : (configurePad pu reject s).doneF = s.doneF := by
  cases reject <;> rfl
@[simp] theorem configurePad_ovrF (pu reject : Bool) (s : State) : (configurePad pu reject s).ovrF = s.ovrF := by
  cases reject <;> rfl
@[simp] theorem configurePad_cmderrF (pu reject : Bool) (s : State) : (configurePad pu reject s).cmderrF = s.cmderrF := by
  cases reject <;> rfl
@[simp] theorem configurePad_ctrlVariant (pu reject : Bool) (s : State) : (configurePad pu reject s).ctrlVariant = s.ctrlVariant := by
  cases reject <;> rfl
@[simp] theorem configurePad_ctrlPu (pu reject : Bool) (s : State) : (configurePad pu reject s).ctrlPu = s.ctrlPu := by
  cases reject <;> rfl
@[simp] theorem configurePad_ctrlIe (pu reject : Bool) (s : State) : (configurePad pu reject s).ctrlIe = s.ctrlIe := by
  cases reject <;> rfl
@[simp] theorem configurePad_busRdata (pu reject : Bool) (s : State) : (configurePad pu reject s).busRdata = s.busRdata := by
  cases reject <;> rfl
@[simp] theorem configurePad_padCfgReq (pu reject : Bool) (s : State) : (configurePad pu reject s).padCfgReq = s.padCfgReq := by
  cases reject <;> rfl
@[simp] theorem configurePad_padCfgPu (pu reject : Bool) (s : State) : (configurePad pu reject s).padCfgPu = s.padCfgPu := by
  cases reject <;> rfl
@[simp] theorem configurePad_par (pu reject : Bool) (s : State) : (configurePad pu reject s).par = s.par := by
  cases reject <;> rfl
@[simp] theorem configurePad_inputs (pu reject : Bool) (s : State) : (configurePad pu reject s).inputs = s.inputs := by
  cases reject <;> rfl
@[simp] theorem configurePad_edges (pu reject : Bool) (s : State) : (configurePad pu reject s).edges = s.edges := by
  cases reject <;> rfl

/-! ### `initAccept` -/

@[simp] theorem initAccept_state (pu reject : Bool) (s : State) : (initAccept pu reject s).state = s.state := by
  cases reject <;> rfl
@[simp] theorem initAccept_tcnt (pu reject : Bool) (s : State) : (initAccept pu reject s).tcnt = s.tcnt := by
  cases reject <;> rfl
@[simp] theorem initAccept_bitidx (pu reject : Bool) (s : State) : (initAccept pu reject s).bitidx = s.bitidx := by
  cases reject <;> rfl
@[simp] theorem initAccept_lowDur (pu reject : Bool) (s : State) : (initAccept pu reject s).lowDur = s.lowDur := by
  cases reject <;> rfl
@[simp] theorem initAccept_frame (pu reject : Bool) (s : State) : (initAccept pu reject s).frame = s.frame := by
  cases reject <;> rfl
@[simp] theorem initAccept_actVariant (pu reject : Bool) (s : State) : (initAccept pu reject s).actVariant = s.actVariant := by
  cases reject <;> rfl
@[simp] theorem initAccept_padOeR (pu reject : Bool) (s : State) : (initAccept pu reject s).padOeR = false := by
  cases reject <;> rfl
@[simp] theorem initAccept_padOdR (pu reject : Bool) (s : State) : (initAccept pu reject s).padOdR = !reject := by
  cases reject <;> rfl
@[simp] theorem initAccept_padPuR (pu reject : Bool) (s : State) : (initAccept pu reject s).padPuR = (!reject && pu) := by
  cases reject <;> rfl
@[simp] theorem initAccept_initDone (pu reject : Bool) (s : State) : (initAccept pu reject s).initDone = !reject := by
  cases reject <;> rfl
@[simp] theorem initAccept_cfgErr (pu reject : Bool) (s : State) : (initAccept pu reject s).cfgErr = reject := by
  cases reject <;> rfl
@[simp] theorem initAccept_valid (pu reject : Bool) (s : State) : (initAccept pu reject s).valid = s.valid := by
  cases reject <;> rfl
@[simp] theorem initAccept_raw (pu reject : Bool) (s : State) : (initAccept pu reject s).raw = s.raw := by
  cases reject <;> rfl
@[simp] theorem initAccept_humX10 (pu reject : Bool) (s : State) : (initAccept pu reject s).humX10 = s.humX10 := by
  cases reject <;> rfl
@[simp] theorem initAccept_tempMag (pu reject : Bool) (s : State) : (initAccept pu reject s).tempMag = s.tempMag := by
  cases reject <;> rfl
@[simp] theorem initAccept_tempNeg (pu reject : Bool) (s : State) : (initAccept pu reject s).tempNeg = s.tempNeg := by
  cases reject <;> rfl
@[simp] theorem initAccept_humF32 (pu reject : Bool) (s : State) : (initAccept pu reject s).humF32 = s.humF32 := by
  cases reject <;> rfl
@[simp] theorem initAccept_tempF32 (pu reject : Bool) (s : State) : (initAccept pu reject s).tempF32 = s.tempF32 := by
  cases reject <;> rfl
@[simp] theorem initAccept_errCode (pu reject : Bool) (s : State) : (initAccept pu reject s).errCode = s.errCode := by
  cases reject <;> rfl
@[simp] theorem initAccept_errBit (pu reject : Bool) (s : State) : (initAccept pu reject s).errBit = s.errBit := by
  cases reject <;> rfl
@[simp] theorem initAccept_doneF (pu reject : Bool) (s : State) : (initAccept pu reject s).doneF = s.doneF := by
  cases reject <;> rfl
@[simp] theorem initAccept_ovrF (pu reject : Bool) (s : State) : (initAccept pu reject s).ovrF = s.ovrF := by
  cases reject <;> rfl
@[simp] theorem initAccept_cmderrF (pu reject : Bool) (s : State) : (initAccept pu reject s).cmderrF = s.cmderrF := by
  cases reject <;> rfl
@[simp] theorem initAccept_ctrlVariant (pu reject : Bool) (s : State) : (initAccept pu reject s).ctrlVariant = s.ctrlVariant := by
  cases reject <;> rfl
@[simp] theorem initAccept_ctrlPu (pu reject : Bool) (s : State) : (initAccept pu reject s).ctrlPu = s.ctrlPu := by
  cases reject <;> rfl
@[simp] theorem initAccept_ctrlIe (pu reject : Bool) (s : State) : (initAccept pu reject s).ctrlIe = s.ctrlIe := by
  cases reject <;> rfl
@[simp] theorem initAccept_busRdata (pu reject : Bool) (s : State) : (initAccept pu reject s).busRdata = s.busRdata := by
  cases reject <;> rfl
@[simp] theorem initAccept_padCfgReq (pu reject : Bool) (s : State) : (initAccept pu reject s).padCfgReq = true := by
  cases reject <;> rfl
@[simp] theorem initAccept_padCfgPu (pu reject : Bool) (s : State) : (initAccept pu reject s).padCfgPu = pu := by
  cases reject <;> rfl
@[simp] theorem initAccept_par (pu reject : Bool) (s : State) : (initAccept pu reject s).par = s.par := by
  cases reject <;> rfl
@[simp] theorem initAccept_inputs (pu reject : Bool) (s : State) : (initAccept pu reject s).inputs = s.inputs := by
  cases reject <;> rfl
@[simp] theorem initAccept_edges (pu reject : Bool) (s : State) : (initAccept pu reject s).edges = s.edges := by
  cases reject <;> rfl

/-! ### `failEntry` -/

@[simp] theorem failEntry_state (c : ErrCode) (b : BitVec 6) (s : State) : (failEntry c b s).state = .fail := rfl
@[simp] theorem failEntry_tcnt (c : ErrCode) (b : BitVec 6) (s : State) : (failEntry c b s).tcnt = 0 := rfl
@[simp] theorem failEntry_bitidx (c : ErrCode) (b : BitVec 6) (s : State) : (failEntry c b s).bitidx = s.bitidx := rfl
@[simp] theorem failEntry_lowDur (c : ErrCode) (b : BitVec 6) (s : State) : (failEntry c b s).lowDur = s.lowDur := rfl
@[simp] theorem failEntry_frame (c : ErrCode) (b : BitVec 6) (s : State) : (failEntry c b s).frame = s.frame := rfl
@[simp] theorem failEntry_actVariant (c : ErrCode) (b : BitVec 6) (s : State) : (failEntry c b s).actVariant = s.actVariant := rfl
@[simp] theorem failEntry_padOeR (c : ErrCode) (b : BitVec 6) (s : State) : (failEntry c b s).padOeR = false := rfl
@[simp] theorem failEntry_padOdR (c : ErrCode) (b : BitVec 6) (s : State) : (failEntry c b s).padOdR = s.padOdR := rfl
@[simp] theorem failEntry_padPuR (c : ErrCode) (b : BitVec 6) (s : State) : (failEntry c b s).padPuR = s.padPuR := rfl
@[simp] theorem failEntry_initDone (c : ErrCode) (b : BitVec 6) (s : State) : (failEntry c b s).initDone = s.initDone := rfl
@[simp] theorem failEntry_cfgErr (c : ErrCode) (b : BitVec 6) (s : State) : (failEntry c b s).cfgErr = s.cfgErr := rfl
@[simp] theorem failEntry_valid (c : ErrCode) (b : BitVec 6) (s : State) : (failEntry c b s).valid = s.valid := rfl
@[simp] theorem failEntry_raw (c : ErrCode) (b : BitVec 6) (s : State) : (failEntry c b s).raw = s.raw := rfl
@[simp] theorem failEntry_humX10 (c : ErrCode) (b : BitVec 6) (s : State) : (failEntry c b s).humX10 = s.humX10 := rfl
@[simp] theorem failEntry_tempMag (c : ErrCode) (b : BitVec 6) (s : State) : (failEntry c b s).tempMag = s.tempMag := rfl
@[simp] theorem failEntry_tempNeg (c : ErrCode) (b : BitVec 6) (s : State) : (failEntry c b s).tempNeg = s.tempNeg := rfl
@[simp] theorem failEntry_humF32 (c : ErrCode) (b : BitVec 6) (s : State) : (failEntry c b s).humF32 = s.humF32 := rfl
@[simp] theorem failEntry_tempF32 (c : ErrCode) (b : BitVec 6) (s : State) : (failEntry c b s).tempF32 = s.tempF32 := rfl
@[simp] theorem failEntry_errCode (c : ErrCode) (b : BitVec 6) (s : State) : (failEntry c b s).errCode = c := rfl
@[simp] theorem failEntry_errBit (c : ErrCode) (b : BitVec 6) (s : State) : (failEntry c b s).errBit = b := rfl
@[simp] theorem failEntry_doneF (c : ErrCode) (b : BitVec 6) (s : State) : (failEntry c b s).doneF = true := by
  simp [failEntry, setDone]
@[simp] theorem failEntry_ovrF (c : ErrCode) (b : BitVec 6) (s : State) : (failEntry c b s).ovrF = s.ovrF := rfl
@[simp] theorem failEntry_cmderrF (c : ErrCode) (b : BitVec 6) (s : State) : (failEntry c b s).cmderrF = s.cmderrF := rfl
@[simp] theorem failEntry_ctrlVariant (c : ErrCode) (b : BitVec 6) (s : State) : (failEntry c b s).ctrlVariant = s.ctrlVariant := rfl
@[simp] theorem failEntry_ctrlPu (c : ErrCode) (b : BitVec 6) (s : State) : (failEntry c b s).ctrlPu = s.ctrlPu := rfl
@[simp] theorem failEntry_ctrlIe (c : ErrCode) (b : BitVec 6) (s : State) : (failEntry c b s).ctrlIe = s.ctrlIe := rfl
@[simp] theorem failEntry_busRdata (c : ErrCode) (b : BitVec 6) (s : State) : (failEntry c b s).busRdata = s.busRdata := rfl
@[simp] theorem failEntry_padCfgReq (c : ErrCode) (b : BitVec 6) (s : State) : (failEntry c b s).padCfgReq = s.padCfgReq := rfl
@[simp] theorem failEntry_padCfgPu (c : ErrCode) (b : BitVec 6) (s : State) : (failEntry c b s).padCfgPu = s.padCfgPu := rfl
@[simp] theorem failEntry_par (c : ErrCode) (b : BitVec 6) (s : State) : (failEntry c b s).par = s.par := rfl
@[simp] theorem failEntry_inputs (c : ErrCode) (b : BitVec 6) (s : State) : (failEntry c b s).inputs = s.inputs := rfl
@[simp] theorem failEntry_edges (c : ErrCode) (b : BitVec 6) (s : State) : (failEntry c b s).edges = s.edges := rfl

/-! ### `readAccept` -/

@[simp] theorem readAccept_state (v : Variant) (s : State) : (readAccept v s).state = .reset := rfl
@[simp] theorem readAccept_tcnt (v : Variant) (s : State) : (readAccept v s).tcnt = 0 := rfl
@[simp] theorem readAccept_bitidx (v : Variant) (s : State) : (readAccept v s).bitidx = 0#6 := rfl
@[simp] theorem readAccept_lowDur (v : Variant) (s : State) : (readAccept v s).lowDur = 0 := rfl
@[simp] theorem readAccept_frame (v : Variant) (s : State) : (readAccept v s).frame = 0#40 := rfl
@[simp] theorem readAccept_actVariant (v : Variant) (s : State) : (readAccept v s).actVariant = v := rfl
@[simp] theorem readAccept_padOeR (v : Variant) (s : State) : (readAccept v s).padOeR = true := rfl
@[simp] theorem readAccept_padOdR (v : Variant) (s : State) : (readAccept v s).padOdR = s.padOdR := rfl
@[simp] theorem readAccept_padPuR (v : Variant) (s : State) : (readAccept v s).padPuR = s.padPuR := rfl
@[simp] theorem readAccept_initDone (v : Variant) (s : State) : (readAccept v s).initDone = s.initDone := rfl
@[simp] theorem readAccept_cfgErr (v : Variant) (s : State) : (readAccept v s).cfgErr = s.cfgErr := rfl
@[simp] theorem readAccept_valid (v : Variant) (s : State) : (readAccept v s).valid = false := rfl
@[simp] theorem readAccept_raw (v : Variant) (s : State) : (readAccept v s).raw = 0#40 := rfl
@[simp] theorem readAccept_humX10 (v : Variant) (s : State) : (readAccept v s).humX10 = 0#16 := rfl
@[simp] theorem readAccept_tempMag (v : Variant) (s : State) : (readAccept v s).tempMag = 0#16 := rfl
@[simp] theorem readAccept_tempNeg (v : Variant) (s : State) : (readAccept v s).tempNeg = false := rfl
@[simp] theorem readAccept_humF32 (v : Variant) (s : State) : (readAccept v s).humF32 = 0#32 := rfl
@[simp] theorem readAccept_tempF32 (v : Variant) (s : State) : (readAccept v s).tempF32 = 0#32 := rfl
@[simp] theorem readAccept_errCode (v : Variant) (s : State) : (readAccept v s).errCode = .none := rfl
@[simp] theorem readAccept_errBit (v : Variant) (s : State) : (readAccept v s).errBit = 0#6 := rfl
@[simp] theorem readAccept_doneF (v : Variant) (s : State) : (readAccept v s).doneF = false := by
  simp [readAccept]
@[simp] theorem readAccept_ovrF (v : Variant) (s : State) : (readAccept v s).ovrF = s.ovrF := rfl
@[simp] theorem readAccept_cmderrF (v : Variant) (s : State) : (readAccept v s).cmderrF = s.cmderrF := rfl
@[simp] theorem readAccept_ctrlVariant (v : Variant) (s : State) : (readAccept v s).ctrlVariant = s.ctrlVariant := rfl
@[simp] theorem readAccept_ctrlPu (v : Variant) (s : State) : (readAccept v s).ctrlPu = s.ctrlPu := rfl
@[simp] theorem readAccept_ctrlIe (v : Variant) (s : State) : (readAccept v s).ctrlIe = s.ctrlIe := rfl
@[simp] theorem readAccept_busRdata (v : Variant) (s : State) : (readAccept v s).busRdata = s.busRdata := rfl
@[simp] theorem readAccept_padCfgReq (v : Variant) (s : State) : (readAccept v s).padCfgReq = s.padCfgReq := rfl
@[simp] theorem readAccept_padCfgPu (v : Variant) (s : State) : (readAccept v s).padCfgPu = s.padCfgPu := rfl
@[simp] theorem readAccept_par (v : Variant) (s : State) : (readAccept v s).par = s.par := rfl
@[simp] theorem readAccept_inputs (v : Variant) (s : State) : (readAccept v s).inputs = s.inputs := rfl
@[simp] theorem readAccept_edges (v : Variant) (s : State) : (readAccept v s).edges = s.edges := rfl

end Sys2Proof.Machine
end

