-- ==== Sys2Proof/Laws/Exec.lean ====
section
/-! SUPPORT. What the host part of an edge can do: one inversion lemma for the CTRL acceptance checks
(spec/40_host_commands.md R111), and one for `exec` over all transactions. -/

namespace Sys2Proof.Machine

/-- Every busy state's code is one of the six, and no resting state's is. -/
theorem busy_iff (s : State) : s.busy = true ↔
    s.state = .reset ∨ s.state = .ack1 ∨ s.state = .ack2 ∨ s.state = .ack3 ∨ s.state = .bitLow ∨ s.state = .bitHigh := by
  unfold State.busy
  cases s.state <;> simp [SeqState.isBusy]

/-- BUSY depends on the sequencer's state alone. -/
theorem busy_congr {s t : State} (h : t.state = s.state) : t.busy = s.busy := by
  unfold State.busy
  rw [h]

/-- What a CTRL write that answers a next state did: it was dropped, rejected, or one of the three acceptances. -/
theorem ctrlWrite_next {cmd : CtrlCommand} {var : BitVec 2} {pu ie : Bool} {s t : State}
    (h : ctrlWrite cmd var pu ie s = .next t) :
    (s.busy = true ∧ t = setOvr (respond 0#32 s)) ∨
    (s.busy = false ∧ cmd = .reserved ∧ t = setCmderr (respond 0#32 s)) ∨
    (s.busy = false ∧ cmd = .nop ∧ t = storeCtrl var pu ie (respond 0#32 s)) ∨
    (s.busy = false ∧ cmd = .init ∧
      t = initAccept pu (edgeInput s).padCfgReject (storeCtrl var pu ie (respond 0#32 s))) ∨
    (s.busy = false ∧ ∃ v, cmd = .read v ∧ s.initDone = true ∧
      t = readAccept v (storeCtrl var pu ie (respond 0#32 s))) := by
  cases hb : s.busy <;> cases cmd <;> cases hi : s.initDone <;> simp_all [ctrlWrite]

/-- What a transaction that answers a next state did (R111 to R130). -/
theorem exec_next {i : Instr} {s t : State} (h : exec i s = .next t) :
    (s.busy = true ∧ i.isCtrl = true ∧ t = setOvr (respond 0#32 s)) ∨
    (s.busy = false ∧ (i = .ctrlReadRsvd ∨ i = .ctrlCmdRsvd) ∧ t = setCmderr (respond 0#32 s)) ∨
    (s.busy = false ∧ ∃ var pu ie, i = .ctrlNop var pu ie ∧ t = storeCtrl var pu ie (respond 0#32 s)) ∨
    (s.busy = false ∧ ∃ var pu ie, i = .ctrlInit var pu ie ∧
      t = initAccept pu (edgeInput s).padCfgReject (storeCtrl var pu ie (respond 0#32 s))) ∨
    (s.busy = false ∧ s.initDone = true ∧ ∃ v pu ie, i.readVariant = some v ∧
      t = readAccept v (storeCtrl v.code pu ie (respond 0#32 s))) ∨
    (∃ a b c, i = .wrStatus a b c ∧ t = clearFlags a b c (respond 0#32 s)) ∨
    (i.isCtrl = false ∧ (∀ a b c, i ≠ .wrStatus a b c) ∧ ∃ v, t = respond v s) := by
  cases i
  case ctrlNop var pu ie =>
    rcases ctrlWrite_next (show ctrlWrite .nop var pu ie s = _ from h) with
      ⟨hb, ht⟩ | ⟨-, hc, -⟩ | ⟨hb, -, ht⟩ | ⟨-, hc, -⟩ | ⟨-, v, hc, -⟩
    · exact .inl ⟨hb, rfl, ht⟩
    · cases hc
    · exact .inr (.inr (.inl ⟨hb, var, pu, ie, rfl, ht⟩))
    · cases hc
    · cases hc
  case ctrlInit var pu ie =>
    rcases ctrlWrite_next (show ctrlWrite .init var pu ie s = _ from h) with
      ⟨hb, ht⟩ | ⟨-, hc, -⟩ | ⟨-, hc, -⟩ | ⟨hb, -, ht⟩ | ⟨-, v, hc, -⟩
    · exact .inl ⟨hb, rfl, ht⟩
    · cases hc
    · cases hc
    · exact .inr (.inr (.inr (.inl ⟨hb, var, pu, ie, rfl, ht⟩)))
    · cases hc
  case ctrlReadDht11 pu ie | ctrlReadDht22 pu ie | ctrlReadSi7021 pu ie =>
    rcases ctrlWrite_next (show ctrlWrite (.read _) _ pu ie s = _ from h) with
      ⟨hb, ht⟩ | ⟨-, hc, -⟩ | ⟨-, hc, -⟩ | ⟨-, hc, -⟩ | ⟨hb, v, hc, hi, ht⟩
    · exact .inl ⟨hb, rfl, ht⟩
    · cases hc
    · cases hc
    · cases hc
    · cases hc
      exact .inr (.inr (.inr (.inr (.inl ⟨hb, hi, _, pu, ie, rfl, ht⟩))))
  case ctrlReadRsvd | ctrlCmdRsvd =>
    unfold exec at h
    rcases ctrlWrite_next h with
      ⟨hb, ht⟩ | ⟨hb, -, ht⟩ | ⟨-, hc, -⟩ | ⟨-, hc, -⟩ | ⟨-, v, hc, -⟩
    · exact .inl ⟨hb, rfl, ht⟩
    · exact .inr (.inl ⟨hb, by simp, ht⟩)
    · cases hc
    · cases hc
    · cases hc
  case wrStatus a b c =>
    exact .inr (.inr (.inr (.inr (.inr (.inl ⟨a, b, c, rfl, (Host.Outcome.next.inj h).symm⟩)))))
  all_goals
    exact .inr (.inr (.inr (.inr (.inr (.inr ⟨rfl, by simp, _, (Host.Outcome.next.inj h).symm⟩)))))

/-- While busy every transaction answers a next state. -/
theorem exec_busy_completes (i : Instr) {s : State} (hb : s.busy = true) : ∃ t, exec i s = .next t := by
  cases i
  case ctrlNop | ctrlInit | ctrlReadDht11 | ctrlReadDht22 | ctrlReadSi7021 | ctrlReadRsvd | ctrlCmdRsvd =>
    exact ⟨setOvr (respond 0#32 s), if_pos hb⟩
  all_goals exact ⟨_, rfl⟩

/-- No transaction changes the model's own fields. -/
theorem exec_own_fields {i : Instr} {s t : State} (h : exec i s = .next t) :
    t.par = s.par ∧ t.inputs = s.inputs ∧ t.edges = s.edges := by
  rcases exec_next h with ⟨-, -, rfl⟩ | ⟨-, -, rfl⟩ | ⟨-, _, _, _, -, rfl⟩ | ⟨-, _, _, _, -, rfl⟩ |
    ⟨-, -, _, _, _, -, rfl⟩ | ⟨_, _, _, -, rfl⟩ | ⟨-, -, _, rfl⟩ <;> simp

/-- No transaction is refused. -/
theorem exec_not_refused (i : Instr) (s : State) (r : Refusal) : exec i s ≠ .refused r := by
  cases hb : s.busy <;> cases hi : s.initDone <;> cases i <;>
    simp [exec, execCtrlNop, execCtrlInit, execCtrlReadDht11, execCtrlReadDht22, execCtrlReadSi7021, execCtrlReadRsvd,
      execCtrlCmdRsvd, ctrlWrite, execWrStatus, execWrRawLo, execWrRawHi, execWrHumX10, execWrTempX10, execWrHumF32,
      execWrTempF32, ignoredWrite, execRdCtrl, execRdStatus, execRdRawLo, execRdRawHi, execRdHumX10, execRdTempX10,
      execRdHumF32, execRdTempF32, execUnmapped, hb, hi]

end Sys2Proof.Machine
end

