-- ==== Sys2Proof/Laws/PerInstr.lean ====
section
/-! SUPPORT. The per-instruction statements. EncodeMatches: the word of a well-formed instruction, looked up in the rows of
spec/opcode_table.json (spec/30_encoding.md R94), is found under the instruction's own mnemonic. -/

namespace Sys2Proof.Laws.EncodeMatches

/-- The opcode table gives the encoding of `i` the mnemonic of `i`. -/
def Statement (i : Instr) : Prop := WellFormed i → tableMnemonic (encode i) = i.mnemonic

theorem ctrlNop (var : BitVec 2) (pu ie : Bool) : Statement (.ctrlNop var pu ie) := by
  unfold Statement
  revert var pu ie
  decide

theorem ctrlInit (var : BitVec 2) (pu ie : Bool) : Statement (.ctrlInit var pu ie) := by
  unfold Statement
  revert var pu ie
  decide

theorem ctrlReadDht11 (pu ie : Bool) : Statement (.ctrlReadDht11 pu ie) := by
  unfold Statement
  revert pu ie
  decide

theorem ctrlReadDht22 (pu ie : Bool) : Statement (.ctrlReadDht22 pu ie) := by
  unfold Statement
  revert pu ie
  decide

theorem ctrlReadSi7021 (pu ie : Bool) : Statement (.ctrlReadSi7021 pu ie) := by
  unfold Statement
  revert pu ie
  decide

theorem ctrlReadRsvd : Statement .ctrlReadRsvd := by
  unfold Statement
  decide

theorem ctrlCmdRsvd : Statement .ctrlCmdRsvd := by
  unfold Statement
  decide

theorem wrStatus (clrDone clrOvr clrCmderr : Bool) : Statement (.wrStatus clrDone clrOvr clrCmderr) := by
  unfold Statement
  revert clrDone clrOvr clrCmderr
  decide

theorem wrRawLo : Statement .wrRawLo := by
  unfold Statement
  decide

theorem wrRawHi : Statement .wrRawHi := by
  unfold Statement
  decide

theorem wrHumX10 : Statement .wrHumX10 := by
  unfold Statement
  decide

theorem wrTempX10 : Statement .wrTempX10 := by
  unfold Statement
  decide

theorem wrHumF32 : Statement .wrHumF32 := by
  unfold Statement
  decide

theorem wrTempF32 : Statement .wrTempF32 := by
  unfold Statement
  decide

theorem rdCtrl : Statement .rdCtrl := by
  unfold Statement
  decide

theorem rdStatus : Statement .rdStatus := by
  unfold Statement
  decide

theorem rdRawLo : Statement .rdRawLo := by
  unfold Statement
  decide

theorem rdRawHi : Statement .rdRawHi := by
  unfold Statement
  decide

theorem rdHumX10 : Statement .rdHumX10 := by
  unfold Statement
  decide

theorem rdTempX10 : Statement .rdTempX10 := by
  unfold Statement
  decide

theorem rdHumF32 : Statement .rdHumF32 := by
  unfold Statement
  decide

theorem rdTempF32 : Statement .rdTempF32 := by
  unfold Statement
  decide

/-- An unmapped word matches no row: 256 offsets and directions. -/
theorem unmapped_all : ∀ (we : Bool) (addr : Offset), WellFormed (.unmapped we addr) →
    tableMnemonic (encode (.unmapped we addr)) = "UNMAPPED" := by
  decide +kernel

theorem unmapped (we : Bool) (addr : Offset) : Statement (.unmapped we addr) := unmapped_all we addr

end Sys2Proof.Laws.EncodeMatches
end

