-- ==== Sys2Proof/Laws/Tick.lean ====
section
/-! SUPPORT. What one tick can do: an inversion lemma for AWAIT (spec/41_gpio_timing.md R144), one for completion
(spec/43_value_assembler.md R182), and one for the tick rules (spec/42_frame_decoder.md R160). -/

namespace Sys2Proof.Machine

/-- The three ways a tick of a wait goes, with the condition of each. -/
theorem await_cases (p timeout : Nat) (level padIn : Bool) (count : Nat) :
    (await p timeout level padIn count = .seen (count + 1) ∧ (count + 1) % p = 0 ∧ count + 1 ≤ timeout ∧ padIn = level) ∨
    (await p timeout level padIn count = .timeout ∧ lastSample p timeout ≤ count + 1 ∧
      ¬ ((count + 1) % p = 0 ∧ count + 1 ≤ timeout ∧ padIn = level)) ∨
    (await p timeout level padIn count = .pending (count + 1) ∧ count + 1 < lastSample p timeout ∧
      ¬ ((count + 1) % p = 0 ∧ count + 1 ≤ timeout ∧ padIn = level)) := by
  by_cases hs : (count + 1) % p = 0 ∧ count + 1 ≤ timeout ∧ padIn = level
  · left
    simp [await, isSample, hs.1, hs.2.1, hs.2.2]
  · have hns : (isSample p timeout (count + 1) && (padIn == level)) = false := by
      by_contra hc
      simp only [isSample, Bool.not_eq_false, Bool.and_eq_true, decide_eq_true_eq, beq_iff_eq] at hc
      exact hs ⟨hc.1.1, hc.1.2, hc.2⟩
    by_cases hl : lastSample p timeout ≤ count + 1
    · exact .inr (.inl ⟨by simp [await, hns, hl], hl, hs⟩)
    · exact .inr (.inr ⟨by simp [await, hns, hl], by omega, hs⟩)

/-- Completion ends in DONE with a result, or in the failure entry with none. -/
theorem complete_cases (f : BitVec 40) (s : State) :
    (validate (pack f) = true ∧ complete f s =
      { s with
        frame := f, raw := f, valid := true
        humX10 := (convert (pack f) s.actVariant).humX10, tempMag := (convert (pack f) s.actVariant).tempMag
        tempNeg := (convert (pack f) s.actVariant).tempNeg
        humF32 := rne32 (convert (pack f) s.actVariant).humX10.toNat 10
        tempF32 := BitVec.ofBool (convert (pack f) s.actVariant).tempNeg
          ++ (rne32 (convert (pack f) s.actVariant).tempMag.toNat 10).extractLsb' 0 31
        state := .done, doneF := true }) ∨
    (validate (pack f) = false ∧ complete f s = failEntry .checksumMismatch 0#6 { s with frame := f }) := by
  cases hv : validate (pack f)
  · right
    simp [complete, hv]
  · left
    simp [complete, hv, setDone]

/-- What a waiting state's tick does, from how its AWAIT goes. -/
theorem waitTick_cases (timeout : Nat) (level padIn : Bool) (onSeen : Nat → State → State) (onTimeout : State → State)
    (s : State) :
    (waitTick timeout level padIn onSeen onTimeout s = onSeen (s.tcnt + 1) s ∧ (s.tcnt + 1) % s.par.tickUs = 0 ∧
      s.tcnt + 1 ≤ timeout) ∨
    (waitTick timeout level padIn onSeen onTimeout s = onTimeout s) ∨
    (waitTick timeout level padIn onSeen onTimeout s = { s with tcnt := s.tcnt + 1 } ∧
      s.tcnt + 1 < lastSample s.par.tickUs timeout) := by
  rcases await_cases s.par.tickUs timeout level padIn s.tcnt with ⟨h, h1, h2, -⟩ | ⟨h, -⟩ | ⟨h, h1, -⟩
  · exact .inl ⟨by simp [waitTick, h], h1, h2⟩
  · exact .inr (.inl (by simp [waitTick, h]))
  · exact .inr (.inr ⟨by simp [waitTick, h], h1⟩)

/-- Everything a tick in a busy state can do (R160 to R171). -/
theorem tick_cases (padIn : Bool) {s : State} (hb : s.busy = true) :
    (tick padIn s = { s with tcnt := s.tcnt + 1 } ∧ s.tcnt + 1 < phaseLen s) ∨
    (s.state = .reset ∧ tick padIn s = { drive true s with state := .ack1, tcnt := 0 } ∧
      resetLen s.par s.actVariant ≤ s.tcnt + 1) ∨
    (s.state = .ack1 ∧ tick padIn s = { s with state := .ack2, tcnt := 0 } ∧ (s.tcnt + 1) % s.par.tickUs = 0) ∨
    (s.state = .ack2 ∧ tick padIn s = { s with state := .ack3, tcnt := 0 } ∧ (s.tcnt + 1) % s.par.tickUs = 0) ∨
    (s.state = .ack3 ∧ tick padIn s = { s with state := .bitLow, bitidx := 0#6, tcnt := 0 } ∧
      (s.tcnt + 1) % s.par.tickUs = 0) ∨
    (s.state = .bitLow ∧ tick padIn s = { s with lowDur := s.tcnt + 1, state := .bitHigh, tcnt := 0 } ∧
      (s.tcnt + 1) % s.par.tickUs = 0 ∧ s.tcnt + 1 ≤ s.par.tBitLow) ∨
    (s.state = .bitHigh ∧ tick padIn s = bitDecoded (s.tcnt + 1) s ∧ (s.tcnt + 1) % s.par.tickUs = 0 ∧
      s.tcnt + 1 ≤ s.par.tBitHigh) ∨
    (∃ code bit, tick padIn s = failEntry code bit s ∧
      ((s.state = .ack1 ∧ code = .initAckMissing ∧ bit = 0#6) ∨ (s.state = .ack2 ∧ code = .initAckIncomplete ∧ bit = 0#6) ∨
       (s.state = .ack3 ∧ code = .initAckTimeout ∧ bit = 0#6) ∨
       ((s.state = .bitLow ∨ s.state = .bitHigh) ∧ code = .bitTimeout ∧ bit = s.bitidx))) := by
  have hlen : ∀ x y : Nat, x < lastSample s.par.tickUs y → x < waitLen s.par.tickUs y := fun x y h =>
    lt_of_lt_of_le h (le_max_right _ _)
  rcases (busy_iff s).1 hb with hs | hs | hs | hs | hs | hs
  · by_cases hr : resetLen s.par s.actVariant ≤ s.tcnt + 1
    · exact .inr (.inl ⟨hs, by simp [tick, hs, tickReset, hr], hr⟩)
    · exact .inl ⟨by simp [tick, hs, tickReset, hr], by simp only [phaseLen, hs]; omega⟩
  · rcases waitTick_cases s.par.tAck1 false padIn (fun _ s => { s with state := .ack2, tcnt := 0 })
      (failEntry .initAckMissing 0#6) s with ⟨h, h1, -⟩ | h | ⟨h, h1⟩
    · exact .inr (.inr (.inl ⟨hs, by simp only [tick, hs, tickAck1, h], h1⟩))
    · refine .inr (.inr (.inr (.inr (.inr (.inr (.inr ⟨_, _, by simp only [tick, hs, tickAck1, h], .inl ⟨hs, rfl, rfl⟩⟩))))))
    · exact .inl ⟨by simp only [tick, hs, tickAck1, h], by simpa only [phaseLen, hs] using hlen _ _ h1⟩
  · rcases waitTick_cases s.par.tAck2 true padIn (fun _ s => { s with state := .ack3, tcnt := 0 })
      (failEntry .initAckIncomplete 0#6) s with ⟨h, h1, -⟩ | h | ⟨h, h1⟩
    · exact .inr (.inr (.inr (.inl ⟨hs, by simp only [tick, hs, tickAck2, h], h1⟩)))
    · exact .inr (.inr (.inr (.inr (.inr (.inr (.inr
        ⟨_, _, by simp only [tick, hs, tickAck2, h], .inr (.inl ⟨hs, rfl, rfl⟩)⟩))))))
    · exact .inl ⟨by simp only [tick, hs, tickAck2, h], by simpa only [phaseLen, hs] using hlen _ _ h1⟩
  · rcases waitTick_cases s.par.tAck3 false padIn (fun _ s => { s with state := .bitLow, bitidx := 0#6, tcnt := 0 })
      (failEntry .initAckTimeout 0#6) s with ⟨h, h1, -⟩ | h | ⟨h, h1⟩
    · exact .inr (.inr (.inr (.inr (.inl ⟨hs, by simp only [tick, hs, tickAck3, h], h1⟩))))
    · exact .inr (.inr (.inr (.inr (.inr (.inr (.inr
        ⟨_, _, by simp only [tick, hs, tickAck3, h], .inr (.inr (.inl ⟨hs, rfl, rfl⟩))⟩))))))
    · exact .inl ⟨by simp only [tick, hs, tickAck3, h], by simpa only [phaseLen, hs] using hlen _ _ h1⟩
  · rcases waitTick_cases s.par.tBitLow true padIn (fun d s => { s with lowDur := d, state := .bitHigh, tcnt := 0 })
      (failEntry .bitTimeout s.bitidx) s with ⟨h, h1, h2⟩ | h | ⟨h, h1⟩
    · exact .inr (.inr (.inr (.inr (.inr (.inl ⟨hs, by simp only [tick, hs, tickBitLow, h], h1, h2⟩)))))
    · exact .inr (.inr (.inr (.inr (.inr (.inr (.inr
        ⟨_, _, by simp only [tick, hs, tickBitLow, h], .inr (.inr (.inr ⟨.inl hs, rfl, rfl⟩))⟩))))))
    · exact .inl ⟨by simp only [tick, hs, tickBitLow, h], by simpa only [phaseLen, hs] using hlen _ _ h1⟩
  · rcases waitTick_cases s.par.tBitHigh false padIn bitDecoded (failEntry .bitTimeout s.bitidx) s with
      ⟨h, h1, h2⟩ | h | ⟨h, h1⟩
    · exact .inr (.inr (.inr (.inr (.inr (.inr (.inl ⟨hs, by simp only [tick, hs, tickBitHigh, h], h1, h2⟩))))))
    · exact .inr (.inr (.inr (.inr (.inr (.inr (.inr
        ⟨_, _, by simp only [tick, hs, tickBitHigh, h], .inr (.inr (.inr ⟨.inr hs, rfl, rfl⟩))⟩))))))
    · exact .inl ⟨by simp only [tick, hs, tickBitHigh, h], by simpa only [phaseLen, hs] using hlen _ _ h1⟩

/-- What a decoded bit leads to: the next bit, DONE with the results written, or the checksum failure. -/
theorem bitDecoded_cases (high : Nat) (s : State) :
    (s.bitidx ≠ 39#6 ∧ bitDecoded high s =
      { s with
        frame := shiftIn s.frame (compareWidths s.lowDur high), bitidx := s.bitidx + 1#6, state := .bitLow, tcnt := 0 }) ∨
    (s.bitidx = 39#6 ∧ bitDecoded high s = complete (shiftIn s.frame (compareWidths s.lowDur high)) s) := by
  by_cases h : s.bitidx = 39#6
  · exact .inr ⟨h, by simp [bitDecoded, h]⟩
  · exact .inl ⟨h, by simp [bitDecoded, h]⟩

/-- A tick changes none of these fields. -/
theorem tick_frame (padIn : Bool) {s : State} (hb : s.busy = true) :
    (tick padIn s).par = s.par ∧ (tick padIn s).inputs = s.inputs ∧ (tick padIn s).edges = s.edges ∧
    (tick padIn s).padOdR = s.padOdR ∧ (tick padIn s).padPuR = s.padPuR ∧ (tick padIn s).initDone = s.initDone ∧
    (tick padIn s).cfgErr = s.cfgErr ∧ (tick padIn s).ovrF = s.ovrF ∧ (tick padIn s).cmderrF = s.cmderrF ∧
    (tick padIn s).ctrlVariant = s.ctrlVariant ∧ (tick padIn s).ctrlPu = s.ctrlPu ∧ (tick padIn s).ctrlIe = s.ctrlIe ∧
    (tick padIn s).busRdata = s.busRdata ∧ (tick padIn s).padCfgReq = s.padCfgReq ∧
    (tick padIn s).padCfgPu = s.padCfgPu ∧ (tick padIn s).actVariant = s.actVariant := by
  rcases tick_cases padIn hb with ⟨h, -⟩ | ⟨-, h, -⟩ | ⟨-, h, -⟩ | ⟨-, h, -⟩ | ⟨-, h, -⟩ | ⟨-, h, -⟩ | ⟨-, h, -⟩ |
    ⟨c, b, h, -⟩ <;> rw [h]
  case inr.inr.inr.inr.inr.inr.inl =>
    rcases bitDecoded_cases (s.tcnt + 1) s with ⟨-, h'⟩ | ⟨-, h'⟩
    · rw [h']
      simp
    · rcases complete_cases (shiftIn s.frame (compareWidths s.lowDur (s.tcnt + 1))) s with ⟨-, h2⟩ | ⟨-, h2⟩ <;>
        rw [h', h2] <;> simp
  all_goals simp

end Sys2Proof.Machine
end

