-- ==== Sys2Proof/Laws/Step.lean ====
section
/-! SUPPORT. What one edge can do (spec/40_host_commands.md R110): the inversion lemma of `step`, and the fields of the state
an edge leaves. -/

namespace Sys2Proof.Machine

/-- `h` is what the host part of the edge from `s` gives: the response to no transaction, or that of the decoded one. -/
abbrev HostPart (s h : State) : Prop :=
  (busTransaction (edgeInput s) = none ∧ h = respond 0#32 s) ∨
  ∃ w, busTransaction (edgeInput s) = some w ∧ exec (decode w) s = .next h

/-- A step that answers a next state was a reset edge, or a host part followed by the tick part. -/
theorem step_next {s t : State} (h : step s = .next t) : s.par.Legal ∧
    (((edgeInput s).rst = true ∧ t = resetEdge s) ∨
      ((edgeInput s).rst = false ∧ ∃ h, HostPart s h ∧ t = edgeTail s h)) := by
  unfold step edge at h
  by_cases hl : s.par.Legal
  · refine ⟨hl, ?_⟩
    rw [if_pos hl] at h
    cases hr : (edgeInput s).rst
    · right
      rw [if_neg (by simp [hr])] at h
      cases hb : busTransaction (edgeInput s) with
      | none =>
        simp only [hb] at h
        exact ⟨rfl, _, .inl ⟨hb, rfl⟩, (Host.Outcome.next.inj h).symm⟩
      | some w =>
        simp only [hb] at h
        cases he : exec (decode w) s with
        | next u =>
          simp only [he] at h
          exact ⟨rfl, u, .inr ⟨w, hb, he⟩, (Host.Outcome.next.inj h).symm⟩
        | fault f =>
          simp only [he] at h
          cases h
        | refused r =>
          simp only [he] at h
          cases h
    · left
      rw [if_pos hr] at h
      exact ⟨rfl, (Host.Outcome.next.inj h).symm⟩
  · rw [if_neg hl] at h
    cases h

/-- The edge of a legal state without reset runs its host part, when that answers a next state. -/
theorem step_of_hostPart {s h : State} (hl : s.par.Legal) (hr : (edgeInput s).rst = false) (hh : HostPart s h) :
    step s = .next (edgeTail s h) := by
  unfold step edge
  rw [if_pos hl, if_neg (by simp [hr])]
  rcases hh with ⟨hb, rfl⟩ | ⟨w, hb, he⟩
  · simp only [hb]
  · simp only [hb, he]

/-- While busy, the host part always answers a next state. -/
theorem hostPart_busy {s : State} (hb : s.busy = true) : ∃ h, HostPart s h := by
  cases hw : busTransaction (edgeInput s) with
  | none => exact ⟨_, .inl ⟨hw, rfl⟩⟩
  | some w =>
    obtain ⟨h, he⟩ := exec_busy_completes (decode w) hb
    exact ⟨h, .inr ⟨w, hw, he⟩⟩

/-- The edge's input seen through the model's own fields only. -/
theorem edgeInput_congr {s t : State} (h1 : t.inputs = s.inputs) (h2 : t.edges = s.edges) : edgeInput t = edgeInput s := by
  unfold edgeInput
  rw [h1, h2]

/-- While busy, the host part touches only the sticky flags and the edge's outputs. -/
theorem hostPart_busy_frame {s h : State} (hb : s.busy = true) (hh : HostPart s h) : SameButFlags s h := by
  rcases hh with ⟨-, rfl⟩ | ⟨w, -, he⟩
  · rfl
  · rcases exec_next he with ⟨-, -, rfl⟩ | ⟨h0, -⟩ | ⟨h0, -⟩ | ⟨h0, -⟩ | ⟨h0, -⟩ | ⟨_, _, _, -, rfl⟩ | ⟨-, -, _, rfl⟩
    all_goals first | rfl | cases hb.symm.trans h0

/-- An edge without reset from a resting state is its host part alone. -/
theorem step_rest {s t : State} (h : step s = .next t) (hr : (edgeInput s).rst = false) (hb : s.busy = false) :
    ∃ h, HostPart s h ∧ t = advance h := by
  obtain ⟨-, ⟨hr', -⟩ | ⟨-, u, hu, rfl⟩⟩ := step_next h
  · simp [hr] at hr'
  · exact ⟨u, hu, by simp [edgeTail, hb]⟩

/-- An edge without reset from a busy state: flags from the host part, and the tick rule if it is a tick. -/
theorem step_busy {s t : State} (h : step s = .next t) (hr : (edgeInput s).rst = false) (hb : s.busy = true) :
    ∃ h, HostPart s h ∧ SameButFlags s h ∧ h.busy = true ∧
      t = advance (if (edgeInput s).usTick then tick (edgeInput s).padIn h else h) := by
  obtain ⟨-, ⟨hr', -⟩ | ⟨-, u, hu, rfl⟩⟩ := step_next h
  · simp [hr] at hr'
  · have hf := hostPart_busy_frame hb hu
    refine ⟨u, hu, hf, ?_, by simp [edgeTail, hb]⟩
    rw [busy_congr (s := s) (by rw [hf]), hb]

/-- The host part of an edge from a resting state (R111 to R130): nothing but the edge's outputs and the flags, or one of
the three acceptances. -/
theorem hostPart_cases {s h : State} (hh : HostPart s h) :
    SameButFlags s h ∨
    (s.busy = false ∧ ∃ var pu ie, edgeInstr s = some (.ctrlNop var pu ie) ∧
      h = storeCtrl var pu ie (respond 0#32 s)) ∨
    (s.busy = false ∧ ∃ var pu ie, edgeInstr s = some (.ctrlInit var pu ie) ∧
      h = initAccept pu (edgeInput s).padCfgReject (storeCtrl var pu ie (respond 0#32 s))) ∨
    (s.busy = false ∧ s.initDone = true ∧ ∃ i v pu ie, edgeInstr s = some i ∧ i.readVariant = some v ∧
      h = readAccept v (storeCtrl v.code pu ie (respond 0#32 s))) := by
  rcases hh with ⟨-, rfl⟩ | ⟨w, hw, he⟩
  · exact .inl rfl
  · have hi : edgeInstr s = some (decode w) := by simp [edgeInstr, hw]
    rcases exec_next he with ⟨-, -, rfl⟩ | ⟨-, -, rfl⟩ | ⟨hb, v, p, e, hd, rfl⟩ | ⟨hb, v, p, e, hd, rfl⟩ |
      ⟨hb, hin, v, p, e, hd, rfl⟩ | ⟨_, _, _, -, rfl⟩ | ⟨-, -, _, rfl⟩
    · exact .inl rfl
    · exact .inl rfl
    · exact .inr (.inl ⟨hb, v, p, e, by rw [hi, hd], rfl⟩)
    · exact .inr (.inr (.inl ⟨hb, v, p, e, by rw [hi, hd], rfl⟩))
    · exact .inr (.inr (.inr ⟨hb, hin, _, v, p, e, hi, hd, rfl⟩))
    · exact .inl rfl
    · exact .inl rfl

end Sys2Proof.Machine
end

