-- ==== Sys2Proof/Tests/Slice0.lean ====
section
/-! SUPPORT. The model's own tests: well-formedness, one written-out word per constructor, one step per instruction from the
vectors of spec/95_test_vectors.md, and a witness for the hypotheses of every statement. Expected values are the spec's. -/

namespace Sys2Proof.Tests

open Sys2Proof Sys2Proof.Machine

/-! ### Well-formedness: an offset with a row of its own is no UNMAPPED offset -/

theorem test_wf_mapped_write_refused : Instr.wellFormed (.unmapped true 0x04#7) = false := by decide
theorem test_wf_mapped_read_refused : Instr.wellFormed (.unmapped false 0x00#7) = false := by decide
theorem test_wf_last_mapped_refused : Instr.wellFormed (.unmapped true 0x1C#7) = false := by decide
theorem test_wf_misaligned : Instr.wellFormed (.unmapped true 0x01#7) = true := by decide
theorem test_wf_first_unmapped : Instr.wellFormed (.unmapped false 0x20#7) = true := by decide

/-! ### Decoding: words from the encodings of spec/30_encoding.md and spec/95_test_vectors.md -/

theorem test_decode_nop : decode 0x8000000020#40 = .ctrlNop 0b00#2 false true := by decide
theorem test_decode_nop_high_bits : decode 0x80FFFFFFC0#40 = .ctrlNop 0b00#2 false false := by decide
theorem test_decode_init : decode 0x8000000011#40 = .ctrlInit 0b00#2 true false := by decide
theorem test_decode_init_rsvd_variant : decode 0x800000000D#40 = .ctrlInit 0b11#2 false false := by decide
theorem test_decode_read_dht11 : decode 0x8000000022#40 = .ctrlReadDht11 false true := by decide
theorem test_decode_read_dht22 : decode 0x80FFFFFFF6#40 = .ctrlReadDht22 true true := by decide
theorem test_decode_read_si7021 : decode 0x800000000A#40 = .ctrlReadSi7021 false false := by decide
theorem test_decode_read_rsvd : decode 0x800000000E#40 = .ctrlReadRsvd := by decide
theorem test_decode_cmd_rsvd : decode 0x8000000003#40 = .ctrlCmdRsvd := by decide
theorem test_decode_ackdone : decode 0x8400000080#40 = .wrStatus true false false := by decide
theorem test_decode_clrflags : decode 0x8400000380#40 = .wrStatus true true true := by decide
theorem test_decode_wr_raw_lo : decode 0x8800000000#40 = .wrRawLo := by decide
theorem test_decode_wr_raw_hi : decode 0x8C00000000#40 = .wrRawHi := by decide
theorem test_decode_wr_hum_x10 : decode 0x9012345678#40 = .wrHumX10 := by decide
theorem test_decode_wr_temp_x10 : decode 0x9400000000#40 = .wrTempX10 := by decide
theorem test_decode_wr_hum_f32 : decode 0x9800000000#40 = .wrHumF32 := by decide
theorem test_decode_wr_temp_f32 : decode 0x9C00000000#40 = .wrTempF32 := by decide
theorem test_decode_rd_ctrl : decode 0x0000000000#40 = .rdCtrl := by decide
theorem test_decode_rd_status : decode 0x0400000000#40 = .rdStatus := by decide
theorem test_decode_rd_raw_lo : decode 0x0800000000#40 = .rdRawLo := by decide
theorem test_decode_rd_raw_hi : decode 0x0C00000000#40 = .rdRawHi := by decide
theorem test_decode_rd_hum_x10 : decode 0x1000000000#40 = .rdHumX10 := by decide
theorem test_decode_rd_temp_x10 : decode 0x1400000000#40 = .rdTempX10 := by decide
theorem test_decode_rd_hum_f32 : decode 0x1800000000#40 = .rdHumF32 := by decide
theorem test_decode_rd_temp_f32 : decode 0x1C00000000#40 = .rdTempF32 := by decide
theorem test_decode_misaligned : decode 0x8100000002#40 = .unmapped true 0x01#7 := by decide
theorem test_decode_unmapped_read : decode 0x2000000000#40 = .unmapped false 0x20#7 := by decide
theorem test_decode_too_long : decodeNat (2 ^ 40) = .error .longerThanTW := by rfl
theorem test_decode_table_word : decodeTableWord 40 0x8000000011 = some (.ctrlInit 0b00#2 true false) := by decide

/-! ### Encoding, and the assembler forms of R99 and R100 -/

theorem test_encode_init : encode (.ctrlInit 0b00#2 true false) = 0x8000000011#40 := by decide
theorem test_encode_read_dht22 : encode (.ctrlReadDht22 true true) = 0x8000000036#40 := by decide
theorem test_encode_clrflags : encode (.wrStatus true true true) = 0x8400000380#40 := by decide
theorem test_encode_unmapped : encode (.unmapped true 0x7F#7) = 0xFF00000000#40 := by decide
theorem test_asm_ctrl_imm : ∀ (cmd var : BitVec 2) (pu ie : Bool), ctrlImm cmd var pu ie = ctrlData cmd var pu ie := by
  decide
theorem test_asm_ackdone : asmAckDone = 0x8400000080#40 := by decide
theorem test_asm_clrflags : asmClrFlags = 0x8400000380#40 := by decide
theorem test_asm_readx : [AsmVariant.dht11, .dht22, .si7021, .rsvd].map asmReadX =
    [0x8000000022#40, 0x8000000026#40, 0x800000002A#40, 0x800000002E#40] := by decide
theorem test_asm_readx_rsvd_decodes : decode (asmReadX .rsvd) = .ctrlReadRsvd := by decide
theorem test_asm_ctrl_omitted_fields : asmCtrl 0b00#2 (ie := true) = 0x8000000020#40 ∧
    asmCtrl 0b01#2 (pu := true) = 0x8000000011#40 ∧ asmCtrl 0b10#2 .dht22 = 0x8000000006#40 := by decide

/-! ### Small states, and one edge with one transaction -/

/-- The state I of spec/95_test_vectors.md: after reset and `CTRL.INIT pu=1`. -/
def stI : State := { State.reset with initDone := true, padOdR := true, padPuR := true, ctrlPu := true }

/-- The state B of spec/95_test_vectors.md: `I`, then `CTRL.READ var=DHT22`. -/
def stB : State :=
  { stI with state := .reset, padOeR := true, actVariant := .dht22, ctrlVariant := 0b01#2, ctrlPu := false }

/-- DONE with DONE = 1, after a DHT22 read of 65.2 % and -2.5 degrees (frame 0x028C801927). -/
def stD : State :=
  { stI with
    state := .done, valid := true, doneF := true, ctrlVariant := 0b01#2, ctrlPu := false, actVariant := .dht22
    raw := 0x028C801927#40, frame := 0x028C801927#40, bitidx := 39#6
    humX10 := 652#16, tempMag := 25#16, tempNeg := true, humF32 := 0x42826666#32, tempF32 := 0xC0200000#32 }

/-- A tick edge with no transaction, the line at `line`. -/
def tickEdge (line : Bool) : Config.EdgeIn := { quietEdge 0#40 with busValid := false, usTick := true, padIn := line }

/-- An edge with nothing on it. -/
def idle : Config.EdgeIn := { quietEdge 0#40 with busValid := false }

/-- A reset edge. -/
def rstEdge : Config.EdgeIn := { tickEdge false with rst := true }

/-- The state before the coming edge `e`. -/
def State.with1 (s : State) (e : Config.EdgeIn) : State := { s with inputs := [e] }

/-- A next state. -/
def nextOf (o : Host.Outcome State Fault Refusal) : Option State :=
  match o with
  | .next t => some t
  | .fault _ => none
  | .refused _ => none

/-- A fault. -/
def faultOf (o : Host.Outcome State Fault Refusal) : Option Fault :=
  match o with
  | .fault f => some f
  | .next _ => none
  | .refused _ => none

/-- A refusal. -/
def refusalOf (o : Host.Outcome State Fault Refusal) : Option Refusal :=
  match o with
  | .refused r => some r
  | .next _ => none
  | .fault _ => none

/-- The state after one edge that carries the word `w`. -/
def host (w : TW) (s : State) : Option State := nextOf (step (placeWord w s))

/-- STATUS and CTRL after that edge. -/
def seen (w : TW) (s : State) : Option (Word × Word) := (host w s).map (fun t => (statusValue t, ctrlValue t))

/-! ### One step per instruction (spec/95_test_vectors.md HV1 to HV23) -/

theorem test_nop_HV14 : seen 0x80FFFFFFC0#40 stI = some (0x20#32, 0x00#32) ∧
    (host 0x80FFFFFFC0#40 stI).map (fun t => t.padPuR) = some true := by decide
theorem test_init_HV3 : seen 0x8000000011#40 State.reset = some (0x20#32, 0x10#32) ∧
    (host 0x8000000011#40 State.reset).map (fun t => (t.padOdR, t.padPuR, t.padCfgReq)) = some (true, true, true) := by decide
theorem test_init_rejected_HV4 :
    (nextOf (step (placeWord 0x8000000011#40 (State.with1 State.reset { idle with padCfgReject := true })))).map
      (fun t => (statusValue t, ctrlValue t, t.padOdR, t.padPuR)) = some (0x400#32, 0x10#32, false, false) := by decide
theorem test_read_dht11_HV7 : faultOf (step (placeWord 0x8000000002#40 State.reset)) = some .readBeforeInit := by decide
theorem test_read_dht11_starts : seen 0x8000000022#40 stI = some (0x31#32, 0x20#32) := by decide
theorem test_read_dht22_HV15 : seen 0x80FFFFFFF6#40 stI = some (0x31#32, 0x34#32) ∧
    (host 0x80FFFFFFF6#40 stI).map (fun t => ((outputs t).padOe, (outputs t).csActive)) = some (true, true) := by decide
theorem test_read_si7021_clears_results : (host 0x800000000A#40 stD).map
    (fun t => (t.raw, t.humX10, t.tempF32, statusValue t)) = some (0#40, 0#16, 0#32, 0x31#32) := by decide
theorem test_read_rsvd_HV6 : seen 0x800000000E#40 State.reset = some (0x200#32, 0x00#32) := by decide
theorem test_read_rsvd_HV18 : seen 0x800000000E#40 stB = some (0x131#32, 0x04#32) := by decide
theorem test_cmd_rsvd_HV5 : seen 0x8000000003#40 State.reset = some (0x200#32, 0x00#32) := by decide
theorem test_status_HV22_HV16 : (host 0x8400000080#40 stD).map (fun t => (statusValue t, (outputs t).irq)) =
    some (0x67#32, false) ∧ seen 0x8400000380#40 stB = some (0x31#32, 0x04#32) := by decide
theorem test_nop_irq_HV21 : (host 0x8000000020#40 stD).map (fun t => (statusValue t, ctrlValue t, (outputs t).irq)) =
    some (0xE7#32, 0x20#32, true) := by decide
theorem test_wr_raw_hum_x10_ignored_HV23 : [0x88FFFFFFFF#40, 0x8CFFFFFFFF#40, 0x9012345678#40].all
    (fun w => (host w stD).map (fun t => (statusValue t, t.raw, t.humX10)) == some (0xE7#32, 0x028C801927#40, 652#16)) =
    true := by decide
theorem test_wr_temp_f32_ignored_HV23 : [0x94FFFFFFFF#40, 0x98FFFFFFFF#40, 0x9CFFFFFFFF#40].all
    (fun w => (host w stD).map (fun t => (statusValue t, t.tempMag, t.tempF32)) == some (0xE7#32, 25#16, 0xC0200000#32)) =
    true := by decide
theorem test_unmapped_writes_HV9_HV10 : seen 0x8100000002#40 stI = some (0x20#32, 0x10#32) ∧
    seen 0xA000000002#40 stI = some (0x20#32, 0x10#32) := by decide
theorem test_unmapped_read_HV11 : (host 0x2000000000#40 stD).map (fun t => t.busRdata) = some 0#32 := by decide

/-- What the coming read `w` returns. -/
def readBack (w : TW) (s : State) : Option Word := (host w s).map (fun t => t.busRdata)

/-! The value each register returns of stD (R41 to R46; the results of the frame 0x028C801927 are AV5's, AV38's, AV50's). -/

theorem test_rd_ctrl_status : [0x0000000000#40, 0x0400000000#40].map (fun w => readBack w stD) =
    [some 0x04#32, some 0xE7#32] := by decide
theorem test_rd_raw : [0x0800000000#40, 0x0C00000000#40].map (fun w => readBack w stD) =
    [some 0x19808C02#32, some 0x27#32] := by decide
theorem test_rd_x10 : [0x1000000000#40, 0x1400000000#40].map (fun w => readBack w stD) =
    [some 652#32, some 0x00010019#32] := by decide
theorem test_rd_f32 : [0x1800000000#40, 0x1C00000000#40].map (fun w => readBack w stD) =
    [some 0x42826666#32, some 0xC0200000#32] := by decide

/-! ### WAIT and POLL (R100) -/

/-- WAIT 3 from a state that lists one edge, with a READ on it: three edges stand, and none carries a transaction. -/
theorem test_wait_three : let s := asmWait 3 (State.with1 stI (quietEdge 0x8000000006#40))
    s.inputs.length = 3 ∧ s.inputs.map (fun e => e.busValid) = [false, false, false] := by decide

theorem test_wait_nothing_happens : (nextOf (step (asmWait 1 (State.with1 stI (quietEdge 0x8000000006#40))))).map
    statusValue = some 0x20#32 := by decide

theorem test_poll_ends : (poll 1 (State.with1 stD idle)).map (fun t => t.busRdata) = some 0xE7#32 := by decide
theorem test_poll_goes_on : poll 1 (State.with1 stB idle) = none := by decide

/-! ### Same-edge cases (spec/95_test_vectors.md XV1 to XV5) -/

/-- SI7021, one tick before bit 39 of the frame 0x01F400FAEF is decoded. -/
def stLast : State :=
  { stI with
    state := .bitHigh, actVariant := .si7021, ctrlPu := false, ctrlVariant := 0b10#2
    bitidx := 39#6, frame := 0x00FA007D77#40, lowDur := 50, tcnt := 69 }

/-- Its tick edge with the word `w` on the bus. -/
def lastEdge (w : TW) : Config.EdgeIn := { quietEdge w with usTick := true, padIn := false }

theorem test_XV2 : (nextOf (step (State.with1 stLast (lastEdge 0x0400000000#40)))).map
    (fun t => (t.busRdata, statusValue t)) = some (0x36#32, 0xE7#32) := by decide
theorem test_XV3 : (nextOf (step (State.with1 stLast (lastEdge 0x8400000080#40)))).map statusValue =
    some 0xE7#32 := by decide
theorem test_XV4 : (nextOf (step (State.with1 stLast (lastEdge 0x800000002A#40)))).map statusValue =
    some 0x1E7#32 := by decide
theorem test_XV5 : (nextOf (step (State.with1 stLast { lastEdge 0x8400000080#40 with usTick := false }))).map statusValue =
    some 0x36#32 := by decide
theorem test_XV_results : (nextOf (step (State.with1 stLast (tickEdge false)))).map
    (fun t => (t.raw, t.humX10, t.tempMag, t.tempNeg, t.humF32, t.tempF32)) =
    some (0x01F400FAEF#40, 500#16, 250#16, false, 0x42480000#32, 0x41C80000#32) := by decide

/-! ### Waits (spec/95_test_vectors.md GV1 to GV17) -/

theorem test_GV2 : awaitRun 2 40 false (fun j => decide (j < 19)) 40 0 = some (20, .seen 20) := by decide
theorem test_GV3 : awaitRun 2 40 false (fun j => decide (j < 21)) 40 0 = some (22, .seen 22) := by decide
theorem test_GV5 : awaitRun 2 40 false (fun j => decide (j < 40)) 40 0 = some (40, .seen 40) := by decide
theorem test_GV6 : awaitRun 2 40 false (fun j => decide (j < 41)) 40 0 = some (40, .timeout) := by decide
theorem test_GV13 : await 2 1 false false 0 = .timeout ∧ await 2 0 false false 0 = .timeout := by decide
theorem test_GV14 : awaitRun 2 3 false (fun j => decide (j < 3)) 5 0 = some (2, .timeout) := by decide
theorem test_GV17 : awaitRun 3 40 false (fun _ => true) 40 0 = some (39, .timeout) := by decide

/-! ### Bits and values (spec/95_test_vectors.md FV1 to FV8, AV1 to AV54) -/

theorem test_FV_comparator : [(30, 70), (70, 30), (50, 50), (50, 52), (64, 2), (2, 74)].map
    (fun d : Nat × Nat => compareWidths d.1 d.2) = [true, false, false, true, false, true] := by decide
theorem test_AV_checksums : [0x0000000000#40, 0xFFFFFFFFFF#40, 0xFFFFFFFFFC#40, 0x3200150047#40, 0x028C801927#40,
    0x8080000000#40, 0x0101010105#40, 0x028C801928#40].map (fun f => validate (pack f)) =
    [true, false, true, true, true, true, false, false] := by decide
theorem test_AV_rne32 : [0, 1, 9, 25, 101, 256, 652, 999, 32767, 65535].map (fun k => rne32 k 10) =
    [0x00000000#32, 0x3DCCCCCD#32, 0x3F666666#32, 0x40200000#32, 0x4121999A#32, 0x41CCCCCD#32, 0x42826666#32,
      0x42C7CCCD#32, 0x454CCB33#32, 0x45CCCC00#32] := by decide
theorem test_AV_dht11 : convert (pack 0xFFFF800000#40) .dht11 = ⟨2805#16, 1280#16, false⟩ := by decide
theorem test_AV_dht22 : convert (pack 0x028C801927#40) .dht22 = ⟨652#16, 25#16, true⟩ := by decide
theorem test_AV_negative_zero : (complete 0x0000800080#40 { stLast with actVariant := .dht22 }).tempF32 =
    0x80000000#32 := by decide

/-! ### The host's two names -/

theorem test_with_fetch_word : (nextOf (step (State.reset.withFetchWord 40 0x8000000020))).map (fun t => t.ctrlIe) =
    some true := by decide
theorem test_with_fetch_word_keeps_pins : (State.with1 stI (tickEdge false)).withFetchWord 40 0x8000000020 =
    State.with1 stI { quietEdge 0x8000000020#40 with usTick := true, padIn := false } := by decide

/-! ### Witnesses: for each statement with hypotheses, a state and operands that meet them, one for each clause -/

/-- A next state with a decidable property, from its evaluation. -/
theorem next_of {o : Host.Outcome State Fault Refusal} (P : State → Prop) [DecidablePred P]
    (h : (nextOf o).any (fun t => decide (P t)) = true) : ∃ t, o = .next t ∧ P t := by
  cases o with
  | next t => exact ⟨t, rfl, by simpa [nextOf] using h⟩
  | fault f => simp [nextOf] at h
  | refused r => simp [nextOf] at h

theorem test_witness_DecodeInvertsEncode : WellFormed (.unmapped true 0x7F#7) ∧ WellFormed .ctrlReadRsvd := by decide

theorem test_witness_DecodeAgreesWithTheOpcodeTable :
    (⟨"CTRL.CMD.RSVD", 0x8000000003#40, 0xFF00000003#40⟩ : OpcodeRow) ∈ mappedRows ∧
    (⟨"CTRL.CMD.RSVD", 0x8000000003#40, 0xFF00000003#40⟩ : OpcodeRow).Matches 0x80FFFFFFFF#40 ∧
    ∀ r ∈ mappedRows, ¬ r.Matches 0x2000000000#40 := by decide

theorem test_witness_IgnoredBitsDoNotDecode : 0xFFFFFFE1#32 &&& 0x3F#32 = 0x21#32 &&& 0x3F#32 ∧
    0xFFFFFCFF#32 &&& 0x380#32 = 0x80#32 &&& 0x380#32 ∧ 0x08#7 ≠ 0x00#7 ∧ 0x08#7 ≠ 0x04#7 ∧ 0x01#7 ≠ 0x00#7 := by decide

theorem test_witness_StepRuns_next :
    let s := State.with1 stI (quietEdge 0x800000000A#40)
    (s.par.Legal ∧ (edgeInput s).rst = false ∧ busTransaction (edgeInput s) = some 0x800000000A#40) ∧
      ∃ h, exec (decode 0x800000000A#40) s = .next h ∧ h.state = .reset := ⟨by decide, next_of _ (by decide)⟩

theorem test_witness_StepRuns_fault :
    let s := State.with1 State.reset (quietEdge 0x800000000A#40)
    (s.par.Legal ∧ (edgeInput s).rst = false ∧ busTransaction (edgeInput s) = some 0x800000000A#40) ∧
      exec (decode 0x800000000A#40) s = .fault .readBeforeInit := ⟨by decide, by rfl⟩

theorem test_witness_StepRuns_idle : (edgeInput (State.with1 stB (tickEdge true))).busValid = false ∧
    (edgeInput (State.with1 stB (tickEdge true))).rst = false := by decide

theorem test_witness_TickPartReadsTheStateBefore : stLast.busy = true ∧
    ∃ h, exec (.wrStatus true true true) stLast = .next h ∧ h.doneF = false := ⟨by decide, next_of _ (by decide)⟩

theorem test_witness_ResetEdge : (State.with1 stLast rstEdge).par.Legal ∧
    (edgeInput (State.with1 stLast rstEdge)).rst = true := by decide

theorem test_witness_IllegalParameters : ∀ p ∈ [{ Config.defaultParams with tickUs := 0 },
    { Config.defaultParams with tBitHigh := 65536 }, { Config.defaultParams with resetUsDht := 0 }],
    refusalOf (step { stI with par := p }) = some .illegalParameters := by decide

theorem test_witness_LegalAtTheBoundary : ∀ p ∈ [{ Config.defaultParams with tickUs := 1, tAck1 := 0 },
    { Config.defaultParams with tBitHigh := 65535 }, { Config.defaultParams with resetUsDht := 1 }],
    refusalOf (step { State.with1 stI idle with par := p }) = none := by decide

theorem test_witness_StepFaults : faultOf (step (State.with1 State.reset (quietEdge 0x8000000002#40))) =
    some .readBeforeInit ∧ faultOf (step (State.with1 State.reset (quietEdge 0x800000000E#40))) = none := by decide

theorem test_witness_StepKeepsTheParameters : ∃ t, step (State.with1 stI idle) = .next t ∧ t.edges = 1 :=
  next_of _ (by decide)

theorem test_witness_CtrlWriteWhileBusy : stB.busy = true ∧ stLast.busy = true ∧
    Instr.isCtrl (.ctrlInit 0b11#2 true true) = true ∧ Instr.isCtrl .ctrlCmdRsvd = true := by decide

theorem test_witness_ReservedCtrlWrites : State.reset.busy = false ∧ stI.busy = false ∧
    (0xFFFFFFF3#32).extractLsb' 0 2 = 0b11#2 ∧ (0xFFFFFFFE#32).extractLsb' 0 4 = 0b1110#4 := by decide

theorem test_witness_Nop_and_Init : stD.busy = false ∧
    (edgeInput (State.with1 stI idle)).padCfgReject = false ∧ (State.with1 stI idle).busy = false ∧
    (edgeInput (State.with1 stI { idle with padCfgReject := true })).padCfgReject = true := by decide

theorem test_witness_ReadStartsFresh : stD.busy = false ∧ stD.initDone = true := by decide

theorem test_witness_Unmapped : (twAddr 0x8100000002#40).toNat % 4 ≠ 0 ∧ 0x20 ≤ (twAddr 0x2000000000#40).toNat ∧
    0x20 ≤ (twAddr 0xFF00000000#40).toNat := by decide

theorem test_witness_ReadsReturnTheStateBefore :
    let s := State.with1 stLast (lastEdge 0x0400000000#40)
    twWe 0x0400000000#40 = false ∧ s.par.Legal ∧ (edgeInput s).rst = false ∧
      busTransaction (edgeInput s) = some 0x0400000000#40 := by decide

theorem test_witness_FrameOfNop : ∃ t, exec (.ctrlNop 0b11#2 true true) stD = .next t ∧ t.ctrlVariant = 0b11#2 :=
  next_of _ (by decide)
theorem test_witness_FrameOfReserved : ∃ t, exec .ctrlReadRsvd stD = .next t ∧ t.cmderrF = true := next_of _ (by decide)
theorem test_witness_FrameOfInit : ∃ t, exec (.ctrlInit 0b00#2 false true) (State.with1 stD idle) = .next t ∧
    t.padPuR = false := next_of _ (by decide)
theorem test_witness_FrameOfRead : Instr.readVariant (.ctrlReadDht11 true true) = some .dht11 ∧
    (∃ t, exec (.ctrlReadDht11 true true) stD = .next t ∧ t.state = .reset) ∧
    ∃ t, exec (.ctrlReadDht11 true true) stB = .next t ∧ t.ovrF = true :=
  ⟨by decide, next_of _ (by decide), next_of _ (by decide)⟩
theorem test_witness_FrameOfOthers : Instr.isCtrl .wrHumX10 = false ∧
    (∃ t, exec .wrHumX10 stD = .next t ∧ t.busRdata = 0#32) ∧ ∃ t, exec .rdHumX10 stD = .next t ∧ t.busRdata = 652#32 :=
  ⟨by decide, next_of _ (by decide), next_of _ (by decide)⟩
theorem test_witness_FrameOfStatusWrite : ∃ t, exec (.wrStatus true false false) stD = .next t ∧ t.doneF = false :=
  next_of _ (by decide)

/-- A read in flight in the state `q`, `n` ticks counted, at bit `b`. -/
def inFlight (q : SeqState) (n : Nat) (b : BitVec 6) : State := { stB with state := q, padOeR := false, tcnt := n, bitidx := b }

theorem test_witness_NoTransactionDisturbs : stB.busy = true ∧ (inFlight .bitHigh 0 39#6).busy = true := by decide

theorem test_witness_Results_acceptance : (edgeInput (State.with1 stD (quietEdge 0x8000000006#40))).rst = false ∧
    ∃ t, step (State.with1 stD (quietEdge 0x8000000006#40)) = .next t ∧ t.valid = false := ⟨by decide, next_of _ (by decide)⟩
theorem test_witness_Results_completion : (edgeInput (State.with1 stLast (tickEdge false))).rst = false ∧
    ∃ t, step (State.with1 stLast (tickEdge false)) = .next t ∧ t.valid = true := ⟨by decide, next_of _ (by decide)⟩

theorem test_witness_Pad_init : ∃ t, step (State.with1 State.reset (quietEdge 0x8000000011#40)) = .next t ∧
    (t.padOdR ≠ State.reset.padOdR ∧ t.padPuR ≠ State.reset.padPuR) := next_of _ (by decide)
theorem test_witness_Pad_read : ∃ t, step (State.with1 stD (quietEdge 0x8000000006#40)) = .next t ∧
    (t.padOeR ≠ stD.padOeR ∧ t.padOeR = true) := next_of _ (by decide)
theorem test_witness_Pad_release : ∃ t, step (State.with1 { stB with tcnt := 19999 } (tickEdge true)) = .next t ∧
    (t.padOeR ≠ stB.padOeR ∧ t.padOeR = false ∧ t.state = .ack1) := next_of _ (by decide)

theorem test_witness_Sequencer_tick : ∃ t, step (State.with1 stB (tickEdge true)) = .next t ∧
    ¬ SamePosition (State.with1 stB (tickEdge true)) t := next_of _ (by decide)
theorem test_witness_Sequencer_read : ∃ t, step (State.with1 stD (quietEdge 0x8000000006#40)) = .next t ∧
    ¬ SamePosition (State.with1 stD (quietEdge 0x8000000006#40)) t := next_of _ (by decide)
theorem test_witness_Sequencer_reset : ∃ t, step (State.with1 stD rstEdge) = .next t ∧
    ¬ SamePosition (State.with1 stD rstEdge) t := next_of _ (by decide)

theorem test_witness_Done_rises : stLast.doneF = false ∧ stLast.busy = true ∧
    ∃ t, step (State.with1 stLast (tickEdge false)) = .next t ∧ (t.doneF = true ∧ t.busy = false) :=
  ⟨by decide, by decide, next_of _ (by decide)⟩

theorem test_witness_Critical_rises : stI.busy = false ∧
    ∃ t, step (State.with1 stI (quietEdge 0x8000000006#40)) = .next t ∧ t.busy = true := ⟨by decide, next_of _ (by decide)⟩
theorem test_witness_Critical_reset : stB.busy = true ∧
    ∃ t, step (State.with1 stB rstEdge) = .next t ∧ t.busy = false := ⟨by decide, next_of _ (by decide)⟩

theorem test_witness_CombinationalOutputs : ∃ t, step (State.with1 stI (quietEdge 0x8000000011#40)) = .next t ∧
    (t.padCfgReq = true ∧ t.padCfgPu = true) := next_of _ (by decide)

theorem test_witness_Resting : stD.busy = false ∧ (State.with1 stD (tickEdge false)).inputs = tickEdge false :: [] := by
  decide

theorem test_witness_LineReadOnly : (State.with1 stB (tickEdge true)).inputs = tickEdge true :: [] ∧
    readsLine (State.with1 stB (tickEdge true)) = false ∧
    readsLine (State.with1 { stB with state := .ack1, tcnt := 0 } (tickEdge true)) = false ∧
    readsLine (State.with1 { stB with state := .ack1, tcnt := 1 } (tickEdge true)) = true := by decide

theorem test_witness_Failure_ack1 : ∃ t, step (State.with1 (inFlight .ack1 39 0#6) (tickEdge true)) = .next t ∧
    (t.state = .fail ∧ statusValue t = 0x10A8#32) := next_of _ (by decide)
theorem test_witness_Failure_ack2 : ∃ t, step (State.with1 (inFlight .ack2 87 0#6) (tickEdge false)) = .next t ∧
    (t.state = .fail ∧ statusValue t = 0x20A8#32) := next_of _ (by decide)
theorem test_witness_Failure_ack3 : ∃ t, step (State.with1 (inFlight .ack3 87 0#6) (tickEdge true)) = .next t ∧
    (t.state = .fail ∧ statusValue t = 0x30A8#32) := next_of _ (by decide)
theorem test_witness_Failure_bitLow : ∃ t, step (State.with1 (inFlight .bitLow 63 5#6) (tickEdge false)) = .next t ∧
    (t.state = .fail ∧ statusValue t = 0x540A8#32) := next_of _ (by decide)
theorem test_witness_Failure_bitHigh : ∃ t, step (State.with1 (inFlight .bitHigh 73 39#6) (tickEdge true)) = .next t ∧
    (t.state = .fail ∧ statusValue t = 0x2740A8#32) := next_of _ (by decide)
theorem test_witness_Failure_checksum : ∃ t, step (State.with1 { inFlight .bitHigh 69 39#6 with
      frame := 0x01460C0C94#40, lowDur := 70 } (tickEdge false)) = .next t ∧
    (t.state = .fail ∧ statusValue t = 0x50A8#32 ∧ t.frame = 0x028C181928#40) := next_of _ (by decide)

theorem test_witness_SeenDurations : await 2 40 false false 1 = .seen 2 ∧ await 2 40 false false 39 = .seen 40 := by decide

theorem test_witness_WaitRoundsUp : 2 * (10 - 1) < 19 ∧ 19 ≤ 2 * 10 ∧ 2 * 10 ≤ lastSample 2 40 ∧
    2 * (20 - 1) < 40 ∧ 40 ≤ 2 * 20 ∧ 2 * 20 ≤ lastSample 2 40 := by decide
theorem test_witness_WaitRoundsUp_line : (∀ j, 1 ≤ j → j < 19 → decide (j < 19) ≠ false) ∧
    (∀ j, 19 ≤ j → j ≤ 2 * 10 → decide (j < 19) = false) := by
  refine ⟨fun j _ h => by simp [h], fun j h _ => by simp [h]⟩

theorem test_witness_WaitTimesOut : 2 ≤ 2 ∧ 1 < 2 ∧ ∀ j : Nat, 1 ≤ j → j ≤ lastSample 2 2 → j % 2 = 0 → true ≠ false := by
  refine ⟨by decide, by decide, fun _ _ _ _ => by decide⟩

theorem test_witness_TickRules : stB.state = .reset ∧ (inFlight .ack1 0 0#6).state = .ack1 ∧
    (inFlight .ack2 0 0#6).state = .ack2 ∧ (inFlight .ack3 0 0#6).state = .ack3 ∧ (inFlight .bitLow 0 0#6).state = .bitLow ∧
    (inFlight .bitHigh 73 0#6).state = .bitHigh ∧ await 2 75 false true 73 = .timeout ∧
    (inFlight .bitHigh 72 39#6).state = .bitHigh ∧ await 2 75 false false 72 = .pending 73 := by decide

theorem test_witness_HighPhase : (inFlight .bitHigh 69 38#6).state = .bitHigh ∧ await 2 75 false false 69 = .seen 70 ∧
    (inFlight .bitHigh 69 38#6).bitidx ≠ 39#6 ∧ stLast.bitidx = 39#6 := by decide

/-- The shortest legal parameters, and a read just accepted with them. -/
def stShort : State := { stB with par := ⟨1, 1, 1, 1, 1, 1, 1, 1, 1⟩ }

theorem test_witness_ResetPulse :
    let s := { stB with par := { Config.defaultParams with resetUsDht := 2 }, inputs := [tickEdge true, idle] }
    let s' := { s with inputs := [tickEdge true, idle, tickEdge true] }
    s.par.Legal ∧ s.state = .reset ∧ s.tcnt = 0 ∧ (∀ e ∈ s.inputs, e.rst = false) ∧
      countTicks s.inputs < resetLen s.par s.actVariant ∧ (∀ e ∈ s'.inputs, e.rst = false) ∧
      s'.inputs = [tickEdge true, idle] ++ [tickEdge true] ∧ (tickEdge true).usTick = true ∧
      countTicks [tickEdge true, idle] + 1 = resetLen s'.par s'.actVariant := by decide

theorem test_witness_FortyBits : (List.replicate 40 (50, 27)).length = 40 ∧ (List.replicate 40 (50, 70)).length = 40 ∧
    stB.bitidx = 0#6 ∧ validate (pack 0#40) = true ∧ validate (pack 0xFFFFFFFFFF#40) = false := by decide

theorem test_witness_Dht22Conversion : Variant.dht22 ≠ .dht11 ∧ Variant.si7021 ≠ .dht11 ∧ stB.actVariant = .dht22 ∧
    validate (pack 0x0000800080#40) = true ∧ (pack 0x0000800080#40).b2 = 0x80#8 ∧ (pack 0x0000800080#40).b3 = 0x00#8 := by
  decide

theorem test_witness_Tenths : 65535 ≤ 65535 ∧ f32Finite 0x7F7FFFFF#32 = true ∧ f32Finite 0x7F800000#32 = false ∧
    1 ≤ 65535 ∧ 10 * 6553 ≤ 65535 := by decide

theorem test_witness_Completion : validate (pack 0x028C801927#40) = true ∧ validate (pack 0x028C801928#40) = false := by
  decide

theorem test_witness_reset_inv : Inv State.reset := by constructor <;> decide
theorem test_witness_inv_busy : Inv (inFlight .bitLow 63 39#6) := by constructor <;> decide
theorem test_witness_inv_step : ∃ t, step (State.with1 (inFlight .bitLow 63 39#6) (tickEdge true)) = .next t ∧
    t.state = .bitHigh := next_of _ (by decide)

theorem test_witness_Counters : CounterFits (inFlight .bitLow 63 39#6) ∧ PhaseFits (inFlight .bitLow 63 39#6) ∧
    ¬ PhaseFits (inFlight .bitLow 64 39#6) := by decide

theorem test_witness_EveryReadEnds :
    let s := { stShort with inputs := List.replicate 84 (tickEdge true) }
    s.par.Legal ∧ s.busy = true ∧ PhaseFits s ∧ (∀ e ∈ s.inputs, e.rst = false) ∧ ticksLeft s ≤ countTicks s.inputs := by
  decide

theorem test_witness_ReadEndsWithinItsBound :
    let s := { stShort with inputs := List.replicate 84 (tickEdge true) }
    WaitsSample s.par ∧ s.state = .reset ∧ s.tcnt = 0 ∧ s.bitidx = 0#6 ∧
      readBound s.par s.actVariant ≤ countTicks s.inputs := by decide

/-- The line of a read whose waits all see their level at the first sample: low, high, low, then 40 times high, low. -/
def shortLine : List Config.EdgeIn :=
  tickEdge true :: tickEdge false :: tickEdge true :: tickEdge false ::
    (List.replicate 40 [tickEdge true, tickEdge false]).flatten

theorem test_witness_SuccessfulReadTakesAtLeast :
    let s := { stShort with inputs := shortLine }
    (s.par.Legal ∧ (∀ e ∈ s.inputs, e.rst = false) ∧ 84 ≤ s.inputs.length) ∧
      ∃ t, runEdges 84 s = .next t ∧ t.state = .done := ⟨by decide, next_of _ (by decide +kernel)⟩

theorem test_witness_Blocks :
    let e : SystemIn := ⟨false, true, true, true, 0x180, 0x11#32⟩
    (e.busAddr < 0x200 ∨ 0x200 + 128 ≤ e.busAddr) ∧ (e.busAddr < 0x100 ∨ 0x100 + 128 ≤ e.busAddr) ∧
      ([⟨true, false⟩, ⟨true, true⟩] : List PadIn)[0]? = ([⟨true, false⟩] : List PadIn)[0]? := by decide

end Sys2Proof.Tests
end

section
/-! The equations of `step` that Laws/Step.lean leaves out (an illegal parameter set, a reset edge, a fault of the decoded
transaction), and the condition of a refusal (spec/00_scope.md R7). -/

namespace Sys2Proof.Machine

/-- With an illegal parameter set every edge is refused (R7). -/
theorem step_of_not_legal {s : State} (hl : ¬ s.par.Legal) : step s = .refused .illegalParameters := by
  unfold step edge
  exact if_neg hl

/-- The reset edge of a legal state restores the reset values, whatever is on the bus (R230). -/
theorem step_of_rst {s : State} (hl : s.par.Legal) (hr : (edgeInput s).rst = true) : step s = .next (resetEdge s) := by
  unfold step edge
  rw [if_pos hl, if_pos hr]

/-- A fault of the decoded transaction is the fault of the edge. -/
theorem step_of_exec_fault {s : State} {w : TW} {f : Fault} (hl : s.par.Legal) (hr : (edgeInput s).rst = false)
    (hw : busTransaction (edgeInput s) = some w) (he : exec (decode w) s = .fault f) : step s = .fault f := by
  unfold step edge
  rw [if_pos hl, if_neg (by simp [hr])]
  simp only [hw, he]

/-- No edge of a legal state is refused: the edge itself refuses nothing, and no transaction does. -/
theorem step_not_refused {s : State} (hl : s.par.Legal) (r : Refusal) : step s ≠ .refused r := by
  cases hr : (edgeInput s).rst with
  | true => simp [step_of_rst hl hr]
  | false =>
    cases hw : busTransaction (edgeInput s) with
    | none => simp [step_of_hostPart hl hr (.inl ⟨hw, rfl⟩)]
    | some w =>
      cases he : exec (decode w) s with
      | next h => simp [step_of_hostPart hl hr (.inr ⟨w, hw, he⟩)]
      | fault f => simp [step_of_exec_fault hl hr hw he]
      | refused q => exact absurd he (exec_not_refused _ _ q)

/-- A step is refused exactly for an illegal parameter set, and with that reason. -/
theorem step_refused_iff (s : State) (r : Refusal) :
    step s = .refused r ↔ r = .illegalParameters ∧ ¬ s.par.Legal := by
  constructor
  · intro h
    have hl : ¬ s.par.Legal := fun hl => step_not_refused hl r h
    exact ⟨Host.Outcome.refused.inj (h.symm.trans (step_of_not_legal hl)), hl⟩
  · rintro ⟨rfl, hl⟩
    exact step_of_not_legal hl

/-- A parameter set is illegal when one of the ten bounds of R7 is broken. -/
theorem not_legal_iff (p : Config.Params) : ¬ p.Legal ↔
    (p.tickUs < 1 ∨ p.resetUsSi7021 < 1 ∨ p.resetUsDht < 1 ∨
      2 ^ p.tcntW - 1 < p.tAck1 ∨ 2 ^ p.tcntW - 1 < p.tAck2 ∨ 2 ^ p.tcntW - 1 < p.tAck3 ∨
      2 ^ p.tcntW - 1 < p.tBitLow ∨ 2 ^ p.tcntW - 1 < p.tBitHigh ∨
      2 ^ p.tcntW - 1 < p.resetUsSi7021 ∨ 2 ^ p.tcntW - 1 < p.resetUsDht) := by
  simp only [Config.Params.Legal, not_and_or, not_le]

/-- Settles O9: legality decides a refusal, and its negation is the list of broken bounds. -/
theorem illegalParametersAreRefused : Obligations.IllegalParametersAreRefused := by
  intro s r
  rw [step_refused_iff, not_legal_iff]

end Sys2Proof.Machine
end

section
/-! What an edge does to the block behind the host's registers: the state with the host's side blanked, and one case
analysis of `step` on it. -/

namespace Sys2Proof.Machine

/-- The state with the stored CTRL fields, the sticky flags, the edge's outputs and the model's edge count and inputs blanked:
what is left is the sequencer, the pad, the results, the outcome of the read and the parameters. -/
def blankHost (s : State) : State :=
  { s with
    ctrlVariant := 0#2, ctrlPu := false, ctrlIe := false
    doneF := false, ovrF := false, cmderrF := false
    busRdata := 0#32, padCfgReq := false, padCfgPu := false
    inputs := [], edges := 0 }

@[simp] theorem blankHost_advance (s : State) : blankHost (advance s) = blankHost s := rfl

theorem blankHost_of_sameButFlags {s t : State} (h : SameButFlags s t) : blankHost t = blankHost s := by
  rw [h]
  rfl

/-- What `f` does behind the host's side does not depend on the host's side. -/
def HostBlind (f : State → State) : Prop := ∀ s, blankHost (f (blankHost s)) = blankHost (f s)

theorem HostBlind.congr {f : State → State} (hf : HostBlind f) {s t : State} (h : blankHost t = blankHost s) :
    blankHost (f t) = blankHost (f s) := by
  rw [← hf t, h, hf s]

theorem hostBlind_readAccept (v : Variant) : HostBlind (readAccept v) := fun _ => rfl

theorem hostBlind_initAccept (pu reject : Bool) : HostBlind (initAccept pu reject) := fun _ => by
  cases reject <;> rfl

theorem hostBlind_failEntry (code : ErrCode) (bit : BitVec 6) : HostBlind (failEntry code bit) := fun _ => rfl

theorem hostBlind_tickReset : HostBlind tickReset := by
  intro s
  by_cases hr : resetLen s.par s.actVariant ≤ s.tcnt + 1
  · have hr' : resetLen (blankHost s).par (blankHost s).actVariant ≤ (blankHost s).tcnt + 1 := hr
    simp only [tickReset, if_pos hr, if_pos hr']
    rfl
  · have hr' : ¬ resetLen (blankHost s).par (blankHost s).actVariant ≤ (blankHost s).tcnt + 1 := hr
    simp only [tickReset, if_neg hr, if_neg hr']
    rfl

theorem hostBlind_waitTick {timeout : Nat} {level padIn : Bool} {onSeen : Nat → State → State} {onTimeout : State → State}
    (hseen : ∀ d, HostBlind (onSeen d)) (htimeout : HostBlind onTimeout) :
    HostBlind (waitTick timeout level padIn onSeen onTimeout) := by
  intro s
  have ha : await (blankHost s).par.tickUs timeout level padIn (blankHost s).tcnt =
      await s.par.tickUs timeout level padIn s.tcnt := rfl
  unfold waitTick
  rw [ha]
  cases await s.par.tickUs timeout level padIn s.tcnt with
  | seen d => exact hseen d s
  | timeout => exact htimeout s
  | pending t => rfl

theorem hostBlind_complete (f : BitVec 40) : HostBlind (complete f) := by
  intro s
  cases hv : validate (pack f) <;> simp only [complete, hv] <;> rfl

theorem hostBlind_bitDecoded (high : Nat) : HostBlind (bitDecoded high) := by
  intro s
  have hc := hostBlind_complete (shiftIn s.frame (compareWidths s.lowDur high)) s
  by_cases hb : s.bitidx = 39#6
  · have hb' : (blankHost s).bitidx = 39#6 := hb
    simp only [bitDecoded, if_pos hb, if_pos hb']
    exact hc
  · have hb' : ¬ (blankHost s).bitidx = 39#6 := hb
    simp only [bitDecoded, if_neg hb, if_neg hb']
    rfl

/-- The tick rules do not look at the host's side (R160). -/
theorem hostBlind_tick (padIn : Bool) : HostBlind (tick padIn) := by
  intro s
  have hs : (blankHost s).state = s.state := rfl
  unfold tick
  rw [hs]
  cases s.state with
  | reset => exact hostBlind_tickReset s
  | ack1 | ack2 | ack3 | bitLow =>
    exact hostBlind_waitTick (fun _ _ => rfl) (hostBlind_failEntry _ _) s
  | bitHigh => exact hostBlind_waitTick hostBlind_bitDecoded (hostBlind_failEntry _ _) s
  | idle | done | fail => rfl

/-- The coming edge carries an INIT. -/
abbrev CarriesInit (s : State) : Prop := ∃ i, edgeInstr s = some i ∧ i.isInit = true

/-- The coming edge carries a READ of a legal variant. -/
abbrev CarriesRead (s : State) : Prop := ∃ i, edgeInstr s = some i ∧ i.readVariant.isSome = true

/-- Behind the host's side an edge without reset leaves everything as it was, accepts an INIT or a READ, or ticks. -/
theorem step_blankHost {s t : State} (h : step s = .next t) (hr : (edgeInput s).rst = false) :
    blankHost t = blankHost s ∨
    (s.busy = false ∧ CarriesInit s ∧ ∃ pu reject, blankHost t = blankHost (initAccept pu reject s)) ∨
    (s.busy = false ∧ s.initDone = true ∧ CarriesRead s ∧ ∃ v, blankHost t = blankHost (readAccept v s)) ∨
    (s.busy = true ∧ (edgeInput s).usTick = true ∧ ∃ padIn, blankHost t = blankHost (tick padIn s)) := by
  cases hb : s.busy with
  | true =>
    obtain ⟨u, -, hu, -, rfl⟩ := step_busy h hr hb
    have hu' := blankHost_of_sameButFlags hu
    cases ht : (edgeInput s).usTick with
    | true => exact .inr (.inr (.inr ⟨rfl, rfl, _, (hostBlind_tick _).congr hu'⟩))
    | false => exact .inl (by simpa using hu')
  | false =>
    obtain ⟨u, hu, rfl⟩ := step_rest h hr hb
    rcases hostPart_cases hu with hu | ⟨-, var, pu, ie, -, rfl⟩ | ⟨-, var, pu, ie, hi, rfl⟩ |
      ⟨-, hin, i, v, pu, ie, hi, hv, rfl⟩
    · exact .inl (by simpa using blankHost_of_sameButFlags hu)
    · exact .inl rfl
    · exact .inr (.inl ⟨rfl, ⟨_, hi, rfl⟩, _, _, (hostBlind_initAccept _ _).congr rfl⟩)
    · exact .inr (.inr (.inl ⟨rfl, hin, ⟨i, hi, by simp [hv]⟩, v,
        (hostBlind_readAccept v).congr (t := storeCtrl v.code pu ie (respond 0#32 s)) rfl⟩))

theorem step_of_reset {s t : State} (h : step s = .next t) (hr : (edgeInput s).rst = true) : t = resetEdge s :=
  (Host.Outcome.next.inj ((step_of_rst (step_next h).1 hr).symm.trans h)).symm

/-- A predicate that does not look at the host's side is kept by every step, when the reset edge, the two acceptances and the
tick rules keep it. -/
theorem step_keeps {P : State → Prop} (hblank : ∀ s, P (blankHost s) ↔ P s)
    (hreset : ∀ s, s.par.Legal → P (resetEdge s))
    (hinit : ∀ pu reject s, s.busy = false → P s → P (initAccept pu reject s))
    (hread : ∀ v s, s.par.Legal → s.busy = false → s.initDone = true → P s → P (readAccept v s))
    (htick : ∀ padIn s, s.par.Legal → s.busy = true → P s → P (tick padIn s))
    {s t : State} (hs : P s) (h : step s = .next t) : P t := by
  have hl := (step_next h).1
  have hto : ∀ {u : State}, blankHost t = blankHost u → P u → P t := fun {u} he hu =>
    (hblank t).1 (he ▸ (hblank u).2 hu)
  cases hr : (edgeInput s).rst with
  | true => exact step_of_reset h hr ▸ hreset s hl
  | false =>
    rcases step_blankHost h hr with he | ⟨hb, -, pu, reject, he⟩ | ⟨hb, hin, -, v, he⟩ | ⟨hb, -, padIn, he⟩
    · exact hto he hs
    · exact hto he (hinit pu reject s hb hs)
    · exact hto he (hread v s hl hb hin hs)
    · exact hto he (htick padIn s hl hb hs)

end Sys2Proof.Machine
end

section
/-! The three outcomes of a tick while busy (spec/42_frame_decoder.md R160 to R171): the read goes on, fails or completes. -/

namespace Sys2Proof.Machine

/-- `t` is `s` one tick on, in the same read: only sequencer fields and the pulse's drive differ, and each as said. -/
structure ReadGoesOn (s t : State) : Prop where
  frame : t = { s with
    state := t.state, tcnt := t.tcnt, bitidx := t.bitidx, lowDur := t.lowDur, frame := t.frame, padOeR := t.padOeR }
  busy : t.busy = true
  drive : (t.padOeR = s.padOeR ∧ (t.state = .reset ↔ s.state = .reset)) ∨
    (s.state = .reset ∧ t.state = .ack1 ∧ t.padOeR = false)
  bitidx : s.bitidx.toNat ≤ 39 → t.bitidx.toNat ≤ 39
  tcnt : t.tcnt = 0 ∨ (t.state = s.state ∧ t.tcnt < phaseLen s)
  lowDur : t.lowDur = s.lowDur ∨ t.lowDur ≤ s.par.tBitLow

/-- `t` is `s` after a failure entry; the frame may hold one more bit. -/
def ReadFails (s t : State) : Prop :=
  ∃ f code bit, t = failEntry code bit { s with frame := f } ∧ code ≠ .none ∧ (bit ≠ 0#6 → code = .bitTimeout)

/-- `t` is `s` after the completion of a valid frame. -/
def ReadCompletes (s t : State) : Prop :=
  s.state = .bitHigh ∧ s.bitidx = 39#6 ∧ ∃ f raw hum mag neg humF tempF, t = { s with
    frame := f, raw := raw, valid := true, humX10 := hum, tempMag := mag, tempNeg := neg, humF32 := humF, tempF32 := tempF
    state := .done, doneF := true }

theorem bitidx_succ_le {b : BitVec 6} (hne : b ≠ 39#6) (hle : b.toNat ≤ 39) : (b + 1#6).toNat ≤ 39 := by
  have : b.toNat ≠ 39 := fun h => hne (BitVec.eq_of_toNat_eq h)
  rw [BitVec.toNat_add]
  simp only [BitVec.toNat_ofNat]
  omega

/-- A tick of a read in flight goes on with it, fails it or completes it. -/
theorem tick_outcome (padIn : Bool) {s : State} (hb : s.busy = true) :
    ReadGoesOn s (tick padIn s) ∨ ReadFails s (tick padIn s) ∨ ReadCompletes s (tick padIn s) := by
  rcases tick_cases padIn hb with ⟨h, hn⟩ | ⟨hs, h, -⟩ | ⟨hs, h, -⟩ | ⟨hs, h, -⟩ | ⟨hs, h, -⟩ | ⟨hs, h, -, hl⟩ | ⟨hs, h, -⟩ |
    ⟨code, bit, h, hc⟩
  · rw [h]
    exact .inl ⟨rfl, hb, .inl ⟨rfl, .rfl⟩, id, .inr ⟨rfl, hn⟩, .inl rfl⟩
  · rw [h]
    exact .inl ⟨rfl, rfl, .inr ⟨hs, rfl, rfl⟩, id, .inl rfl, .inl rfl⟩
  · rw [h]
    exact .inl ⟨rfl, rfl, .inl ⟨rfl, by simp [hs]⟩, id, .inl rfl, .inl rfl⟩
  · rw [h]
    exact .inl ⟨rfl, rfl, .inl ⟨rfl, by simp [hs]⟩, id, .inl rfl, .inl rfl⟩
  · rw [h]
    exact .inl ⟨rfl, rfl, .inl ⟨rfl, by simp [hs]⟩, fun _ => by simp, .inl rfl, .inl rfl⟩
  · rw [h]
    exact .inl ⟨rfl, rfl, .inl ⟨rfl, by simp [hs]⟩, id, .inl rfl, .inr hl⟩
  · rw [h]
    rcases bitDecoded_cases (s.tcnt + 1) s with ⟨hne, h'⟩ | ⟨he, h'⟩
    · rw [h']
      exact .inl ⟨rfl, rfl, .inl ⟨rfl, by simp [hs]⟩, bitidx_succ_le hne, .inl rfl, .inl rfl⟩
    · rw [h']
      rcases complete_cases (shiftIn s.frame (compareWidths s.lowDur (s.tcnt + 1))) s with ⟨-, h''⟩ | ⟨-, h''⟩
      · exact .inr (.inr ⟨hs, he, _, _, _, _, _, _, _, h''⟩)
      · exact .inr (.inl ⟨_, _, _, h'', by simp, by simp⟩)
  · rw [h]
    refine .inr (.inl ⟨s.frame, code, bit, rfl, ?_⟩)
    rcases hc with ⟨-, rfl, rfl⟩ | ⟨-, rfl, rfl⟩ | ⟨-, rfl, rfl⟩ | ⟨-, rfl, -⟩ <;> simp

end Sys2Proof.Machine
end

section
/-! The invariants of spec/10_state.md R51 and spec/70_reset_and_hazards.md R237 hold after reset and are kept by every step. -/

namespace Sys2Proof.Machine

theorem inv_blankHost (s : State) : Inv (blankHost s) ↔ Inv s :=
  ⟨fun h => { h with }, fun h => { h with }⟩

theorem inv_reset : Inv State.reset := by
  constructor <;> decide

theorem inv_resetEdge (s : State) : Inv (resetEdge s) := { inv_reset with }

theorem resultsZero_readAccept (v : Variant) (s : State) : ResultsZero (readAccept v s) :=
  ⟨rfl, rfl, rfl, rfl, rfl, rfl⟩

theorem inv_readAccept (v : Variant) {s : State} (hin : s.initDone = true) : Inv (readAccept v s) where
  drives_in_reset := by simp
  busy_init := fun _ => ⟨hin, rfl, resultsZero_readAccept v s⟩
  valid_done := by simp
  fail_code := by simp
  other_code := by simp
  invalid_zero := fun _ => resultsZero_readAccept v s
  bit_code := by simp
  bit_range := by simp

theorem inv_initAccept (pu reject : Bool) {s : State} (hb : s.busy = false) (hi : Inv s) :
    Inv (initAccept pu reject s) := by
  have hreset : s.state ≠ .reset := fun h => by simp [State.busy, SeqState.isBusy, h] at hb
  have hrest : (initAccept pu reject s).busy = false := by rw [busy_congr (initAccept_state pu reject s), hb]
  exact {
    drives_in_reset := by simp [hreset]
    busy_init := by simp [hrest]
    valid_done := by simpa using hi.valid_done
    fail_code := by simpa using hi.fail_code
    other_code := by simpa using hi.other_code
    invalid_zero := by simpa [ResultsZero] using hi.invalid_zero
    bit_code := by simpa using hi.bit_code
    bit_range := by simpa using hi.bit_range }

/-- A busy state is neither DONE nor FAIL. -/
theorem not_ended_of_busy {s : State} (hb : s.busy = true) : s.state ≠ .done ∧ s.state ≠ .fail := by
  constructor <;> intro h <;> simp [State.busy, SeqState.isBusy, h] at hb

theorem inv_of_readGoesOn {s t : State} (hb : s.busy = true) (hi : Inv s) (h : ReadGoesOn s t) : Inv t := by
  obtain ⟨hfr, htb, hdrive, hbit, -, -⟩ := h
  obtain ⟨hin, hvalid, hzero⟩ := hi.busy_init hb
  obtain ⟨-, hsf⟩ := not_ended_of_busy hb
  obtain ⟨hdone, hfail⟩ := not_ended_of_busy htb
  have hd : t.padOeR = true ↔ t.state = .reset := by
    rcases hdrive with ⟨ho, hq⟩ | ⟨-, hq, ho⟩
    · rw [ho, hq, hi.drives_in_reset]
    · simp [ho, hq]
  have htv : t.valid = false := by rw [hfr, hvalid]
  have hz : ResultsZero t := by rw [hfr]; exact hzero
  have hcode : t.errCode = .none := by rw [hfr]; exact hi.other_code hsf
  have hbitcode : t.errBit ≠ 0#6 → t.errCode = .bitTimeout := by rw [hfr]; exact hi.bit_code
  exact {
    drives_in_reset := hd
    busy_init := fun _ => ⟨by rw [hfr]; exact hin, htv, hz⟩
    valid_done := by simp [htv, hdone]
    fail_code := fun h => absurd h hfail
    other_code := fun _ => hcode
    invalid_zero := fun _ => hz
    bit_code := hbitcode
    bit_range := hbit hi.bit_range }

theorem inv_of_readFails {s t : State} (hb : s.busy = true) (hi : Inv s) (h : ReadFails s t) : Inv t := by
  obtain ⟨f, code, bit, rfl, hcode, hbit⟩ := h
  obtain ⟨-, hvalid, hzero⟩ := hi.busy_init hb
  exact {
    drives_in_reset := by simp
    busy_init := by simp [State.busy, SeqState.isBusy]
    valid_done := by simp [hvalid]
    fail_code := fun _ => hcode
    other_code := by simp
    invalid_zero := fun _ => hzero
    bit_code := hbit
    bit_range := hi.bit_range }

theorem inv_of_readCompletes {s t : State} (hi : Inv s) (h : ReadCompletes s t) : Inv t := by
  obtain ⟨hs, -, _, _, _, _, _, _, _, rfl⟩ := h
  have hoe : s.padOeR = false := by
    rw [← Bool.not_eq_true, hi.drives_in_reset, hs]
    simp
  exact {
    drives_in_reset := by simp [hoe]
    busy_init := by simp [State.busy, SeqState.isBusy]
    valid_done := by simp
    fail_code := by simp
    other_code := fun _ => hi.other_code (by simp [hs])
    invalid_zero := by simp
    bit_code := hi.bit_code
    bit_range := hi.bit_range }

theorem inv_tick (padIn : Bool) {s : State} (hb : s.busy = true) (hi : Inv s) : Inv (tick padIn s) := by
  rcases tick_outcome padIn hb with h | h | h
  · exact inv_of_readGoesOn hb hi h
  · exact inv_of_readFails hb hi h
  · exact inv_of_readCompletes hi h

/-- Settles O52: the reset edge, the two acceptances and the tick rules keep the invariants, and the rest of an edge touches
only the host's side. -/
theorem stepKeepsTheInvariants : Obligations.StepKeepsTheInvariants := by
  intro s t hi h
  exact step_keeps inv_blankHost (fun s _ => inv_resetEdge s) (fun pu reject s hb hi => inv_initAccept pu reject hb hi)
    (fun v s _ _ hin _ => inv_readAccept v hin) (fun padIn s _ hb hi => inv_tick padIn hb hi) hi h

end Sys2Proof.Machine
end

section
/-! The counters stay within their bounds (spec/10_state.md R27 to R29). -/

namespace Sys2Proof.Machine

theorem phaseLen_pos {s : State} (hl : s.par.Legal) (hb : s.busy = true) : 0 < phaseLen s := by
  have hw : ∀ timeout, 0 < waitLen s.par.tickUs timeout := fun _ => lt_max_of_lt_left Nat.one_pos
  rcases (busy_iff s).1 hb with hs | hs | hs | hs | hs | hs <;> simp only [phaseLen, hs, hw]
  obtain ⟨-, hsi, hdht, -⟩ := hl
  cases s.actVariant <;> assumption

/-- Every phase of a legal parameter set ends before the counter wraps (R7, R27). -/
theorem phaseLen_lt {s : State} (hl : s.par.Legal) : phaseLen s < 2 ^ s.par.tcntW := by
  obtain ⟨-, hsi1, -, h1, h2, h3, h4, h5, hsi, hdht⟩ := hl
  have hw : ∀ timeout, timeout ≤ 2 ^ s.par.tcntW - 1 → waitLen s.par.tickUs timeout < 2 ^ s.par.tcntW := by
    intro timeout ht
    have hle : lastSample s.par.tickUs timeout ≤ timeout := Nat.div_mul_le_self _ _
    exact max_lt (by omega) (by omega)
  have hr : resetLen s.par s.actVariant < 2 ^ s.par.tcntW := by
    cases s.actVariant <;> simp only [resetLen] <;> omega
  cases hs : s.state <;> simp only [phaseLen, hs, hw, hr, h1, h2, h3, h4, h5, Nat.two_pow_pos]

theorem counterFits_of_readGoesOn {s t : State} (hl : s.par.Legal) (hc : CounterFits s) (h : ReadGoesOn s t) :
    CounterFits t := by
  have hpar : t.par = s.par := by rw [h.frame]
  have hlen := phaseLen_lt hl
  obtain ⟨-, -, -, -, -, -, hlow, -⟩ := id hl
  obtain ⟨hct, hcl⟩ := hc
  rw [CounterFits, hpar]
  constructor
  · rcases h.tcnt with h0 | ⟨-, h1⟩ <;> omega
  · rcases h.lowDur with h0 | h1 <;> omega

theorem counterFits_tick (padIn : Bool) {s : State} (hl : s.par.Legal) (hb : s.busy = true) (hc : CounterFits s) :
    CounterFits (tick padIn s) := by
  rcases tick_outcome padIn hb with h | ⟨_, _, _, h, -⟩ | ⟨-, -, _, _, _, _, _, _, _, h⟩
  · exact counterFits_of_readGoesOn hl hc h
  · rw [h]
    exact ⟨Nat.two_pow_pos _, hc.2⟩
  · rw [h]
    exact hc

/-- A phase just begun fits, its length being at least one tick. -/
theorem phaseFits_of_tcnt_zero {s : State} (hl : s.par.Legal) (ht : s.tcnt = 0) (hb : s.bitidx.toNat ≤ 39) :
    PhaseFits s := fun hbusy => ⟨ht ▸ phaseLen_pos hl hbusy, hb⟩

theorem phaseFits_of_rest {s : State} (hb : s.busy = false) : PhaseFits s := fun h => by simp [hb] at h

theorem phaseFits_of_readGoesOn {s t : State} (hl : s.par.Legal) (hb : s.busy = true) (hp : PhaseFits s)
    (h : ReadGoesOn s t) : PhaseFits t := by
  have hpar : t.par = s.par := by rw [h.frame]
  have hbit := h.bitidx (hp hb).2
  rcases h.tcnt with h0 | ⟨hq, h1⟩
  · exact phaseFits_of_tcnt_zero (hpar ▸ hl) h0 hbit
  · have hlen : phaseLen t = phaseLen s := by
      unfold phaseLen
      rw [hq, hpar, show t.actVariant = s.actVariant by rw [h.frame]]
    exact fun _ => ⟨hlen ▸ h1, hbit⟩

theorem phaseFits_tick (padIn : Bool) {s : State} (hl : s.par.Legal) (hb : s.busy = true) (hp : PhaseFits s) :
    PhaseFits (tick padIn s) := by
  rcases tick_outcome padIn hb with h | ⟨_, _, _, h, -⟩ | ⟨-, -, _, _, _, _, _, _, _, h⟩
  · exact phaseFits_of_readGoesOn hl hb hp h
  · exact phaseFits_of_rest (by rw [h]; rfl)
  · exact phaseFits_of_rest (by rw [h]; rfl)

/-- Settles O53: both bounds are kept by the reset edge, the acceptances and the tick rules. -/
theorem countersStayInRange : Obligations.CountersStayInRange := by
  intro s t h
  constructor
  · intro hc
    exact step_keeps (P := CounterFits) (fun _ => .rfl) (fun s _ => ⟨Nat.two_pow_pos _, Nat.two_pow_pos _⟩)
      (fun pu reject s _ hc => by simpa [CounterFits] using hc)
      (fun v s _ _ _ _ => ⟨Nat.two_pow_pos _, Nat.two_pow_pos _⟩)
      (fun padIn s hl hb hc => counterFits_tick padIn hl hb hc) hc h
  · intro hp
    exact step_keeps (P := PhaseFits) (fun _ => .rfl) (fun s _ => phaseFits_of_rest rfl)
      (fun pu reject s hb _ => phaseFits_of_rest (by rw [busy_congr (initAccept_state pu reject s), hb]))
      (fun v s hl _ _ _ => phaseFits_of_tcnt_zero hl rfl (by simp))
      (fun padIn s hl hb hp => phaseFits_tick padIn hl hb hp) hp h

/-- Settles O51; a resting state has no phase to fit. -/
theorem invariantsHoldAtReset : Obligations.InvariantsHoldAtReset :=
  ⟨inv_reset, by decide, phaseFits_of_rest rfl⟩

end Sys2Proof.Machine
end

section
/-! What an edge may change: the results (spec/10_state.md R34), the sequencer position (R38), the pad registers (R32). -/

namespace Sys2Proof.Machine

theorem sameResults_congr {s t u : State} (h : blankHost t = blankHost u) (hs : SameResults s u) : SameResults s t := by
  change SameResults s (blankHost t)
  rw [h]
  exact hs

/-- Settles O28: of all that an edge does, only READ acceptance and completion write the results. -/
theorem resultsChangeOnlyAtAcceptanceOrCompletion : Obligations.ResultsChangeOnlyAtAcceptanceOrCompletion := by
  intro s t h hr
  rcases step_blankHost h hr with he | ⟨-, -, pu, reject, he⟩ | ⟨hb, -, hread, v, he⟩ | ⟨hb, htick, padIn, he⟩
  · exact .inl (sameResults_congr he (by simp [SameResults]))
  · exact .inl (sameResults_congr he (by simp [SameResults]))
  · refine .inr (.inl ⟨hb, hread, congrArg State.valid he, ?_⟩)
    change ResultsZero (blankHost t)
    rw [he]
    exact resultsZero_readAccept v s
  · rcases tick_outcome padIn hb with ho | ⟨_, _, _, ho, -⟩ | ⟨hs, hbit, _, _, _, _, _, _, _, ho⟩
    · refine .inl (sameResults_congr he ?_)
      rw [ho.frame]
      simp [SameResults]
    · refine .inl (sameResults_congr he ?_)
      rw [ho]
      simp [SameResults]
    · rw [ho] at he
      exact .inr (.inr ⟨hs, hbit, htick, congrArg State.state he, congrArg State.valid he⟩)

theorem samePosition_of_blankHost {s t : State} (h : blankHost t = blankHost s) : SamePosition s t :=
  ⟨(congrArg State.state h :), (congrArg State.bitidx h :), (congrArg State.tcnt h :)⟩

/-- Settles O30: neither the host's side nor INIT touches the position. -/
theorem sequencerMovesOnlyAsSaid : Obligations.SequencerMovesOnlyAsSaid := by
  intro s t h hmove
  cases hr : (edgeInput s).rst with
  | true => exact .inl ⟨rfl, by rw [step_of_reset h hr]; rfl⟩
  | false =>
    rcases step_blankHost h hr with he | ⟨-, -, pu, reject, he⟩ | ⟨hb, hin, hread, v, he⟩ | ⟨hb, htick, -⟩
    · exact absurd (samePosition_of_blankHost he) hmove
    · exact absurd (by simpa [SamePosition] using samePosition_of_blankHost he) hmove
    · exact .inr (.inr ⟨rfl, hb, hin, hread, congrArg State.state he⟩)
    · exact .inr (.inl ⟨rfl, hb, htick⟩)

/-- In a tick the pad keeps its configuration, and it lets go of the line at the end of the pulse or into FAIL only. -/
theorem tick_pad (padIn : Bool) {s : State} (hb : s.busy = true) :
    (tick padIn s).padOdR = s.padOdR ∧ (tick padIn s).padPuR = s.padPuR ∧
    ((tick padIn s).padOeR = s.padOeR ∨ ((tick padIn s).padOeR = false ∧
      ((s.state = .reset ∧ (tick padIn s).state = .ack1) ∨ (tick padIn s).state = .fail))) := by
  obtain ⟨-, -, -, hod, hpu, -⟩ := tick_frame padIn hb
  refine ⟨hod, hpu, ?_⟩
  rcases tick_outcome padIn hb with h | ⟨_, _, _, h, -⟩ | ⟨-, -, _, _, _, _, _, _, _, h⟩
  · rcases h.drive with ⟨ho, -⟩ | ⟨hs, hq, ho⟩
    · exact .inl ho
    · exact .inr ⟨ho, .inl ⟨hs, hq⟩⟩
  · exact .inr ⟨by simp [h], .inr (by simp [h])⟩
  · exact .inl (by rw [h])

theorem pad_state_of_blankHost {s t : State} (h : blankHost t = blankHost s) :
    t.padOdR = s.padOdR ∧ t.padPuR = s.padPuR ∧ t.padOeR = s.padOeR ∧ t.state = s.state :=
  ⟨(congrArg State.padOdR h :), (congrArg State.padPuR h :), (congrArg State.padOeR h :), (congrArg State.state h :)⟩

/-- What an edge without reset does to the pad registers: nothing, or what an INIT, a READ or a tick does (R32). -/
theorem step_pad {s t : State} (h : step s = .next t) (hr : (edgeInput s).rst = false) :
    (s.busy = false ∧ CarriesInit s ∧ t.padOeR = false) ∨
    (t.padOdR = s.padOdR ∧ t.padPuR = s.padPuR ∧
      (t.padOeR = s.padOeR ∨
        (s.busy = false ∧ CarriesRead s ∧ t.padOeR = true ∧ t.state = .reset) ∨
        (s.busy = true ∧ (edgeInput s).usTick = true ∧ t.padOeR = false ∧
          ((s.state = .reset ∧ t.state = .ack1) ∨ t.state = .fail)))) := by
  rcases step_blankHost h hr with he | ⟨hb, hinit, pu, reject, he⟩ | ⟨hb, -, hread, v, he⟩ | ⟨hb, htick, padIn, he⟩
  all_goals obtain ⟨hod, hpu, hoe, hst⟩ := pad_state_of_blankHost he
  · exact .inr ⟨hod, hpu, .inl hoe⟩
  · exact .inl ⟨hb, hinit, by simpa using hoe⟩
  · exact .inr ⟨hod, hpu, .inr (.inl ⟨hb, hread, hoe, hst⟩)⟩
  · obtain ⟨hod', hpu', hoe'⟩ := tick_pad padIn hb
    refine .inr ⟨hod.trans hod', hpu.trans hpu', ?_⟩
    rw [hoe, hst]
    exact hoe'.imp id fun ⟨ho, hq⟩ => .inr ⟨hb, htick, ho, hq⟩

/-- Settles O29, from what the edge did to the pad registers. -/
theorem padRegistersWrittenOnlyAsSaid : Obligations.PadRegistersWrittenOnlyAsSaid := by
  intro s t h hr
  rcases step_pad h hr with ⟨hb, hinit, ho⟩ | ⟨hod, hpu, ho | ⟨hb, hread, ho, hst⟩ | ⟨hb, htick, ho, hst⟩⟩
  · exact ⟨fun _ => ⟨hb, hinit⟩, by simp [ho], fun _ _ => .inl ⟨hb, hinit⟩, rfl, rfl, rfl⟩
  · exact ⟨by simp [hod, hpu], by simp [ho], by simp [ho], rfl, rfl, rfl⟩
  · exact ⟨by simp [hod, hpu], fun _ _ => ⟨hb, hread, hst⟩, by simp [ho], rfl, rfl, rfl⟩
  · exact ⟨by simp [hod, hpu], by simp [ho], fun _ _ => .inr ⟨hb, htick, hst⟩, rfl, rfl, rfl⟩

end Sys2Proof.Machine
end

section
/-! The fields that the tick part leaves to the host part: the edge's outputs and the model's own fields. -/

namespace Sys2Proof.Machine

theorem resetEdge_own_fields (s : State) :
    (resetEdge s).par = s.par ∧ (resetEdge s).inputs = s.inputs.tail ∧ (resetEdge s).edges = s.edges + 1 :=
  ⟨rfl, rfl, rfl⟩

theorem hostPart_own_fields {s h : State} (hh : HostPart s h) :
    h.par = s.par ∧ h.inputs = s.inputs ∧ h.edges = s.edges := by
  rcases hh with ⟨-, rfl⟩ | ⟨w, -, he⟩
  · exact ⟨rfl, rfl, rfl⟩
  · exact exec_own_fields he

/-- The end of an edge runs the tick rule on a busy state, or nothing. -/
theorem edgeTail_eq {s h : State} (hh : HostPart s h) :
    edgeTail s h = advance h ∨ (h.busy = true ∧ ∃ padIn, edgeTail s h = advance (tick padIn h)) := by
  cases hc : (edgeInput s).usTick && s.busy with
  | false => exact .inl (by simp [edgeTail, hc])
  | true =>
    have hb : s.busy = true := ((Bool.and_eq_true _ _).mp hc).2
    have hs : h.state = s.state := by rw [hostPart_busy_frame hb hh]
    exact .inr ⟨by rw [busy_congr hs, hb], (edgeInput s).padIn, by simp only [edgeTail, hc, if_true]⟩

theorem edgeTail_own_fields {s h : State} (hh : HostPart s h) :
    (edgeTail s h).par = h.par ∧ (edgeTail s h).inputs = h.inputs.tail ∧ (edgeTail s h).edges = h.edges + 1 := by
  rcases edgeTail_eq hh with he | ⟨hb, padIn, he⟩
  · simp [he]
  · obtain ⟨hpar, hin, hed, -⟩ := tick_frame padIn hb
    simp [he, hpar, hin, hed]

theorem edgeTail_outputs {s h : State} (hh : HostPart s h) :
    (edgeTail s h).busRdata = h.busRdata ∧ (edgeTail s h).padCfgReq = h.padCfgReq ∧
      (edgeTail s h).padCfgPu = h.padCfgPu := by
  rcases edgeTail_eq hh with he | ⟨hb, padIn, he⟩
  · simp [he]
  · obtain ⟨-, -, -, -, -, -, -, -, -, -, -, -, hrd, hreq, hpu, -⟩ := tick_frame padIn hb
    simp [he, hrd, hreq, hpu]

/-- Settles O11: neither the host part nor the tick part touches these fields; the end of the edge does. -/
theorem stepKeepsTheParameters : Obligations.StepKeepsTheParameters := by
  intro s t h
  obtain ⟨-, ⟨-, rfl⟩ | ⟨-, u, hu, rfl⟩⟩ := step_next h
  · exact resetEdge_own_fields s
  · obtain ⟨hpar, hin, hed⟩ := hostPart_own_fields hu
    obtain ⟨hpar', hin', hed'⟩ := edgeTail_own_fields hu
    exact ⟨hpar'.trans hpar, by rw [hin', hin], by rw [hed', hed]⟩

end Sys2Proof.Machine
end

section
/-! The edge's combinational outputs are those of its own transaction (spec/10_state.md R49). -/

namespace Sys2Proof.Machine

/-- A read transaction answers the value at its offset and changes nothing else. -/
theorem exec_decodeRead (a : Offset) (s : State) : exec (decodeRead a) s = .next (respond (readValue s a) s) := by
  unfold decodeRead readValue
  split_ifs <;> rfl

theorem decodeCtrl_isCtrl (d : Word) : (decodeCtrl d).isCtrl = true := by
  unfold decodeCtrl
  dsimp only
  split_ifs <;> rfl

theorem exec_isCtrl_busRdata {i : Instr} {s t : State} (hi : i.isCtrl = true) (h : exec i s = .next t) :
    t.busRdata = 0#32 := by
  rcases exec_next h with ⟨-, -, rfl⟩ | ⟨-, -, rfl⟩ | ⟨-, _, _, _, -, rfl⟩ | ⟨-, _, _, _, -, rfl⟩ |
    ⟨-, -, _, _, _, -, rfl⟩ | ⟨_, _, _, -, rfl⟩ | ⟨hn, -⟩
  case inr.inr.inr.inr.inr.inr => simp [hi] at hn
  all_goals simp

/-- A write transaction reads 0. -/
theorem exec_decodeWrite_busRdata {a : Offset} {d : Word} {s t : State} (h : exec (decodeWrite a d) s = .next t) :
    t.busRdata = 0#32 := by
  unfold decodeWrite at h
  split_ifs at h
  case pos => exact exec_isCtrl_busRdata (decodeCtrl_isCtrl d) h
  all_goals
    cases h
    rfl

/-- An INIT's PULL_UP is bit 4 of the write data (R91). -/
theorem pu_of_decode_ctrlInit {we : Bool} {a : Offset} {d : Word} {var : BitVec 2} {pu ie : Bool}
    (h : decode (mkTW we a d) = .ctrlInit var pu ie) : pu = d.getLsbD 4 := by
  rw [decode_mkTW] at h
  unfold decodeWrite decodeCtrl decodeRead at h
  dsimp only at h
  split_ifs at h
  injection h with _ h _
  exact h.symm

/-- The configuration request an accepted transaction presents: INIT's alone, with its pull-up. -/
theorem exec_padCfg {i : Instr} {s t : State} (h : exec i s = .next t) :
    (s.busy = false ∧ t.padCfgReq = true ∧ ∃ var pu ie, i = .ctrlInit var pu ie ∧ t.padCfgPu = pu) ∨
    (¬ (s.busy = false ∧ i.isInit = true) ∧ t.padCfgReq = false ∧ t.padCfgPu = false) := by
  rcases exec_next h with ⟨hb, -, rfl⟩ | ⟨-, rfl | rfl, rfl⟩ | ⟨-, _, _, _, rfl, rfl⟩ | ⟨hb, var, pu, ie, rfl, rfl⟩ |
    ⟨-, -, _, _, _, hv, rfl⟩ | ⟨_, _, _, rfl, rfl⟩ | ⟨hn, -, _, rfl⟩
  · exact .inr ⟨by simp [hb], by simp⟩
  · exact .inr ⟨by simp [Instr.isInit], by simp⟩
  · exact .inr ⟨by simp [Instr.isInit], by simp⟩
  · exact .inr ⟨by simp [Instr.isInit], by simp⟩
  · exact .inl ⟨hb, by simp, var, pu, ie, rfl, by simp⟩
  · refine .inr ⟨?_, by simp⟩
    cases i <;> simp [Instr.isInit, Instr.readVariant] at hv ⊢
  · exact .inr ⟨by simp [Instr.isInit], by simp⟩
  · refine .inr ⟨?_, by simp⟩
    cases i <;> simp [Instr.isInit, Instr.isCtrl] at hn ⊢

/-- The read data of a host part (R22, R49). -/
theorem hostPart_busRdata {s h : State} (hh : HostPart s h) : h.busRdata =
    if (edgeInput s).busValid = true ∧ (edgeInput s).busWe = false then readValue s (edgeInput s).busAddr else 0#32 := by
  rcases hh with ⟨hn, rfl⟩ | ⟨w, hw, he⟩
  · have hv : (edgeInput s).busValid = false := by simpa [busTransaction] using hn
    simp [hv]
  · simp only [busTransaction, Option.ite_none_right_eq_some, Option.some.injEq] at hw
    obtain ⟨hv, rfl⟩ := hw
    rw [decode_mkTW] at he
    cases hwe : (edgeInput s).busWe with
    | true =>
      rw [hwe, if_pos rfl] at he
      simpa using exec_decodeWrite_busRdata he
    | false =>
      rw [hwe, if_neg (by simp), exec_decodeRead] at he
      cases he
      simp [hv]

/-- The configuration request of a host part (R23, R49). -/
theorem hostPart_padCfg {s h : State} (hh : HostPart s h) :
    (h.padCfgReq = true ↔ (s.busy = false ∧ CarriesInit s)) ∧
    h.padCfgPu = (h.padCfgReq && (edgeInput s).busWdata.getLsbD 4) := by
  rcases hh with ⟨hn, rfl⟩ | ⟨w, hw, he⟩
  · simp [edgeInstr, hn]
  · have hi : edgeInstr s = some (decode w) := by simp [edgeInstr, hw]
    simp only [busTransaction, Option.ite_none_right_eq_some, Option.some.injEq] at hw
    rcases exec_padCfg he with ⟨hb, hreq, var, pu, ie, hd, hpu⟩ | ⟨hn, hreq, hpu⟩
    · have hp : pu = (edgeInput s).busWdata.getLsbD 4 := pu_of_decode_ctrlInit (hw.2 ▸ hd)
      have hc : CarriesInit s := ⟨_, hi, by rw [hd]; rfl⟩
      exact ⟨by simp [hreq, hb, hc], by simp [hreq, hpu, hp]⟩
    · refine ⟨?_, by simp [hreq, hpu]⟩
      simpa [hreq, hi] using hn

/-- Settles O33: the outputs are those of the host part. -/
theorem combinationalOutputs : Obligations.CombinationalOutputs := by
  intro s t h
  obtain ⟨-, ⟨hr, rfl⟩ | ⟨hr, u, hu, rfl⟩⟩ := step_next h
  · simp [hr, outputs, resetEdge, State.reset]
  · obtain ⟨hrd, hreq, hpu⟩ := edgeTail_outputs hu
    obtain ⟨hreq', hpu'⟩ := hostPart_padCfg hu
    simp only [outputs, hrd, hreq, hpu, hr, true_and]
    exact ⟨hreq', hpu', hostPart_busRdata hu⟩

end Sys2Proof.Machine
end

section
/-! Reset values (spec/10_state.md R48) and the fields of STATUS (R42). -/

namespace Sys2Proof.Machine

/-- Settles O8; the window is read at each of its 128 offsets. -/
theorem resetValues : Obligations.ResetValues := by
  refine ⟨rfl, rfl, rfl, rfl, rfl, rfl, rfl, rfl, rfl, rfl, rfl, rfl, ⟨rfl, rfl, rfl, rfl, rfl, rfl⟩, rfl, rfl, rfl, rfl,
    rfl, rfl, rfl, rfl, ?_, rfl, rfl, rfl, rfl, rfl⟩
  decide

theorem statusValue_state (s : State) : (statusValue s).extractLsb' 0 4 = s.state.code := by
  unfold statusValue
  rw [BitVec.extractLsb'_append_eq_of_add_le (by decide), BitVec.extractLsb'_eq_self]

theorem statusValue_errCode (s : State) : (statusValue s).extractLsb' 12 4 = s.errCode.code := by
  unfold statusValue
  repeat rw [BitVec.extractLsb'_append_eq_of_le (by decide)]
  rw [BitVec.extractLsb'_append_eq_of_add_le (by decide)]
  exact BitVec.extractLsb'_eq_self

theorem statusValue_errBit (s : State) : (statusValue s).extractLsb' 16 6 = s.errBit := by
  unfold statusValue
  repeat rw [BitVec.extractLsb'_append_eq_of_le (by decide)]
  rw [BitVec.extractLsb'_append_eq_of_add_le (by decide)]
  exact BitVec.extractLsb'_eq_self

theorem statusValue_reserved (s : State) : (statusValue s).extractLsb' 22 10 = 0#10 := by
  unfold statusValue
  repeat rw [BitVec.extractLsb'_append_eq_of_le (by decide)]
  exact BitVec.extractLsb'_eq_self

/-- Settles O21: each field is found past the fields appended below it. -/
theorem statusFields : Obligations.StatusFields := by
  refine ⟨fun s => ⟨statusValue_state s, ?_, ?_, ?_, ?_, ?_, ?_, ?_, ?_, statusValue_errCode s, statusValue_errBit s,
    statusValue_reserved s⟩, busy_iff, rfl, rfl⟩
  all_goals
    simp only [statusValue, BitVec.getLsbD_append]
    simp

end Sys2Proof.Machine
end

section
/-! Reads and the window (spec/20_memory.md R74, R75): a read answers from the state before the edge, and a transaction that
touches no register, or the sticky flags only, leaves what the window shows. -/

namespace Sys2Proof.Machine

/-- A read word is its offset's read, whatever its data bits (R90). -/
theorem decode_of_read {w : TW} (h : twWe w = false) : decode w = decodeRead (twAddr w) := by
  simp [decode, h]

/-- Settles O22: the host part answers with the old value, and the tick part leaves the read data alone. -/
theorem readsReturnTheStateBefore : Obligations.ReadsReturnTheStateBefore := by
  intro s w hwe
  have he : exec (decode w) s = .next (respond (readValue s (twAddr w)) s) := by
    rw [decode_of_read hwe, exec_decodeRead]
  refine ⟨he, fun hl hr hw => ?_⟩
  have hh : HostPart s (respond (readValue s (twAddr w)) s) := .inr ⟨w, hw, he⟩
  exact ⟨_, step_of_hostPart hl hr hh, (edgeTail_outputs hh).1⟩

/-- The window shows registers only, not the outputs of the edge. -/
theorem readValue_of_sameRegisters {s t : State} (h : SameRegisters s t) (a : Offset) : readValue t a = readValue s a := by
  rw [h]
  rfl

/-- The sticky flags are readable in STATUS only (R42). -/
theorem readValue_of_sameButFlags {s t : State} (h : SameButFlags s t) {a : Offset} (ha : a ≠ 0x04#7) :
    readValue t a = readValue s a := by
  rw [h]
  simp only [readValue, if_neg ha]
  rfl

/-- A transaction that is neither a CTRL write nor a STATUS write only answers (R74, R121, R130). -/
theorem exec_sameRegisters {i : Instr} {s t : State} (hctrl : i.isCtrl = false) (hstatus : ∀ a b c, i ≠ .wrStatus a b c)
    (h : exec i s = .next t) : SameRegisters s t := by
  rcases exec_next h with ⟨-, hc, -⟩ | ⟨-, rfl | rfl, -⟩ | ⟨-, _, _, _, rfl, -⟩ | ⟨-, _, _, _, rfl, -⟩ |
    ⟨-, -, v, _, _, hv, -⟩ | ⟨a, b, c, hi, -⟩ | ⟨-, -, v, rfl⟩
  case inr.inr.inr.inr.inr.inr => rfl
  case inr.inr.inr.inr.inr.inl => exact absurd hi (hstatus a b c)
  case inr.inr.inr.inr.inl => cases i <;> simp [Instr.readVariant, Instr.isCtrl] at hv hctrl
  case inl => simp [hctrl] at hc
  all_goals simp [Instr.isCtrl] at hctrl

/-- A STATUS write clears flags and touches nothing else (R120). -/
theorem exec_wrStatus_sameButFlags {clrDone clrOvr clrCmderr : Bool} {s t : State}
    (h : exec (.wrStatus clrDone clrOvr clrCmderr) s = .next t) : SameButFlags s t := by
  have ht : clearFlags clrDone clrOvr clrCmderr (respond 0#32 s) = t := Host.Outcome.next.inj h
  rw [← ht]
  rfl

/-- Settles O26: the registers stay, or all but the flags, and so does what the window shows of them. -/
theorem frameOfOtherTransactions : Obligations.FrameOfOtherTransactions := by
  constructor
  · intro i s t hctrl hstatus h
    have hsame := exec_sameRegisters hctrl hstatus h
    exact ⟨hsame, readValue_of_sameRegisters hsame⟩
  · intro clrDone clrOvr clrCmderr s t h
    have hsame := exec_wrStatus_sameButFlags h
    exact ⟨hsame, fun _ ha => readValue_of_sameButFlags hsame ha⟩

end Sys2Proof.Machine
end

section
/-! Forty measured bits (spec/42_frame_decoder.md R167 to R170, spec/43_value_assembler.md R180, R182): the frame they are
shifted into, the state before the last of them, and completion. -/

namespace Sys2Proof.Machine

theorem getLsbD_shiftIn (f : BitVec 40) (bit : Bool) (i : Nat) :
    (shiftIn f bit).getLsbD i = if i = 0 then bit else decide (i < 40) && f.getLsbD (i - 1) := by
  unfold shiftIn
  rw [BitVec.getLsbD_append]
  rcases Nat.eq_zero_or_pos i with rfl | hi
  · simp
  · have h1 : ¬ i < 1 := by omega
    have h2 : i - 1 < 39 ↔ i < 40 := by omega
    simp [h1, h2, show i ≠ 0 by omega, BitVec.getLsbD_extractLsb']

/-- The frame after the bits of the measured (low, high) durations have been shifted into `f`. -/
def shiftDurations (f : BitVec 40) (ds : List (Nat × Nat)) : BitVec 40 :=
  ds.foldl (fun f d => shiftIn f (compareWidths d.1 d.2)) f

@[simp] theorem shiftDurations_append_singleton (f : BitVec 40) (ds : List (Nat × Nat)) (d : Nat × Nat) :
    shiftDurations f (ds ++ [d]) = shiftIn (shiftDurations f ds) (compareWidths d.1 d.2) := by
  simp [shiftDurations]

/-- The last bit shifted in stands at bit 0, each earlier one above the next (R169). -/
theorem getLsbD_shiftDurations (f : BitVec 40) (ds : List (Nat × Nat)) (hlen : ds.length ≤ 40) {i : Nat}
    (hi : i < ds.length) :
    some ((shiftDurations f ds).getLsbD (ds.length - 1 - i)) = ds[i]?.map fun d => decide (d.1 < d.2) := by
  induction ds using List.reverseRecOn generalizing i with
  | nil => simp at hi
  | append_singleton ds d ih =>
    rw [List.length_append, List.length_singleton] at hi hlen
    rw [shiftDurations_append_singleton, getLsbD_shiftIn, List.length_append, List.length_singleton, Nat.add_sub_cancel]
    rcases Nat.lt_succ_iff_lt_or_eq.mp hi with hlt | rfl
    · rw [List.getElem?_append_left hlt, ← ih (by omega) hlt, if_neg (by omega), decide_eq_true (by omega), Bool.true_and,
        Nat.sub_right_comm]
    · simp [compareWidths]

theorem decodeDurations_append_singleton (ds : List (Nat × Nat)) (d : Nat × Nat) (s : State) :
    decodeDurations (ds ++ [d]) s = bitDecoded d.2 { decodeDurations ds s with lowDur := d.1 } := by
  simp [decodeDurations]

/-- Before the fortieth bit the read goes on: each bit is counted and shifted in, and no result is written. -/
theorem decodeDurations_before_last {s : State} (hs : s.bitidx = 0#6) (ds : List (Nat × Nat)) (hlen : ds.length ≤ 39) :
    (decodeDurations ds s).bitidx = BitVec.ofNat 6 ds.length ∧
    (decodeDurations ds s).frame = shiftDurations s.frame ds ∧ SameResults s (decodeDurations ds s) := by
  induction ds using List.reverseRecOn with
  | nil => exact ⟨hs, rfl, rfl, rfl, rfl, rfl, rfl, rfl, rfl⟩
  | append_singleton ds d ih =>
    rw [List.length_append, List.length_singleton] at hlen ⊢
    obtain ⟨hidx, hframe, hres⟩ := ih (by omega)
    have hne : (decodeDurations ds s).bitidx ≠ 39#6 := by
      rw [hidx, ← BitVec.toNat_inj.ne, BitVec.toNat_ofNat, BitVec.toNat_ofNat]
      omega
    rw [decodeDurations_append_singleton]
    rcases bitDecoded_cases d.2 { decodeDurations ds s with lowDur := d.1 } with ⟨-, h⟩ | ⟨h39, -⟩
    · rw [h, shiftDurations_append_singleton, ← hframe, BitVec.ofNat_add, ← hidx]
      exact ⟨rfl, rfl, hres⟩
    · exact absurd h39 hne

/-- The fortieth bit completes the frame of all forty. -/
theorem decodeDurations_forty {s : State} (hs : s.bitidx = 0#6) {ds : List (Nat × Nat)} (hlen : ds.length = 40) :
    ∃ u, SameResults s u ∧ decodeDurations ds s = complete (shiftDurations s.frame ds) u := by
  obtain rfl | ⟨ds, d, rfl⟩ := ds.eq_nil_or_concat'
  · simp at hlen
  rw [List.length_append, List.length_singleton] at hlen
  obtain ⟨hidx, hframe, hres⟩ := decodeDurations_before_last hs ds (by omega)
  refine ⟨{ decodeDurations ds s with lowDur := d.1 }, hres, ?_⟩
  rw [decodeDurations_append_singleton, shiftDurations_append_singleton, ← hframe]
  rcases bitDecoded_cases d.2 { decodeDurations ds s with lowDur := d.1 } with ⟨hne, -⟩ | ⟨-, h⟩
  · exact absurd (hidx.trans (by rw [show ds.length = 39 by omega])) hne
  · exact h

/-- Bit `7 - k` of the byte `j` of the packed frame is bit `39 - (8 j + k)` of the frame (R180). -/
theorem getLsbD_pack (f : BitVec 40) {k : Nat} (hk : k < 8) :
    (pack f).b0.getLsbD (7 - k) = f.getLsbD (39 - k) ∧ (pack f).b1.getLsbD (7 - k) = f.getLsbD (39 - (8 + k)) ∧
    (pack f).b2.getLsbD (7 - k) = f.getLsbD (39 - (16 + k)) ∧ (pack f).b3.getLsbD (7 - k) = f.getLsbD (39 - (24 + k)) ∧
    (pack f).checksum.getLsbD (7 - k) = f.getLsbD (39 - (32 + k)) := by
  have hbyte : ∀ start i, start + 7 = i → (f.extractLsb' start 8).getLsbD (7 - k) = f.getLsbD (i - k) := by
    rintro start _ rfl
    rw [BitVec.getLsbD_extractLsb', decide_eq_true (by omega), Bool.true_and, Nat.add_sub_assoc (by omega)]
  simp only [← Nat.sub_sub]
  exact ⟨hbyte 32 39 rfl, hbyte 24 31 rfl, hbyte 16 23 rfl, hbyte 8 15 rfl, hbyte 0 7 rfl⟩

/-- Completion keeps the frame, sets DONE, and either delivers it or fails with nothing written (R182). -/
theorem complete_outcome (f : BitVec 40) (u : State) :
    (complete f u).frame = f ∧ (complete f u).doneF = true ∧
    (validate (pack f) = true → (complete f u).state = .done ∧ (complete f u).valid = true ∧ (complete f u).raw = f) ∧
    (validate (pack f) = false → (complete f u).state = .fail ∧ (complete f u).errCode = .checksumMismatch ∧
      SameResults u (complete f u)) := by
  rcases complete_cases f u with ⟨hv, h⟩ | ⟨hv, h⟩ <;> rw [h]
  · simp [hv]
  · simp [hv, SameResults]

/-- Settles O44: the forty bits make the frame, and the fortieth completes it. -/
theorem fortyMeasuredBitsEndTheRead : Obligations.FortyMeasuredBitsEndTheRead := by
  intro s ds hlen hs t ok bit
  obtain ⟨u, hu, ht⟩ := decodeDurations_forty hs hlen
  obtain ⟨hframe, hdone, hvalid, hinvalid⟩ := complete_outcome (shiftDurations s.frame ds) u
  rw [← ht] at hframe hdone hvalid hinvalid
  rw [← hframe] at hvalid hinvalid
  have hbits : ∀ i, i < 40 → some (t.frame.getLsbD (39 - i)) = bit i := by
    intro i hi
    have h := getLsbD_shiftDurations s.frame ds hlen.le (hlen ▸ hi)
    rwa [hlen, ← hframe] at h
  have hok : validate (pack t.frame) = true ↔ ok := beq_iff_eq
  refine ⟨hbits, fun k hk => ?_, hdone, fun h => hvalid (hok.mpr h), fun h => ?_⟩
  · obtain ⟨h0, h1, h2, h3, h4⟩ := getLsbD_pack t.frame hk
    rw [h0, h1, h2, h3, h4]
    exact ⟨hbits _ (by omega), hbits _ (by omega), hbits _ (by omega), hbits _ (by omega), hbits _ (by omega)⟩
  · obtain ⟨hfail, hcode, hres⟩ := hinvalid (Bool.eq_false_iff.mpr (mt hok.mp h))
    exact ⟨hfail, hcode, by simpa only [SameResults, hu] using hres⟩

end Sys2Proof.Machine
end

section
/-! Several blocks in one system (spec/20_memory.md R83, spec/60_exceptions.md R215). -/

namespace Sys2Proof.Machine

theorem inWindow_eq_false {base a : Nat} (h : a < base ∨ base + 128 ≤ a) : inWindow base a = false :=
  decide_eq_false (by omega)

/-- Outside its window a block sees no transaction on the bus (R70). -/
theorem slotInput_outside {e : SystemIn} {base : Nat} (p : PadIn) (h : e.busAddr < base ∨ base + 128 ≤ e.busAddr) :
    slotInput base e p = slotInput base { e with busValid := false } p := by
  simp [slotInput, inWindow_eq_false h]

/-- The system's edge is, block by block, the block's own. -/
theorem getElem?_systemStep (e : SystemIn) (pads : List PadIn) (slots : List Slot) (k : Nat) :
    (systemStep e pads slots)[k]? = (pads[k]?).bind fun p => (slots[k]?).map fun b => slotStep e p b := by
  rw [systemStep, List.getElem?_zipWith]
  cases pads[k]? <;> cases slots[k]? <;> rfl

/-- Settles O57: block `k` is fed by its own pad and slot, and an address outside its window leaves its pins those of an
edge without a transaction. -/
theorem blocksAreIndependent : Obligations.BlocksAreIndependent := by
  constructor
  · intro e pads pads' slots slots' k hpad hslot
    rw [getElem?_systemStep, getElem?_systemStep, hpad, hslot]
  · intro e p b h
    rw [slotStep, slotInput_outside p h]
    rfl

end Sys2Proof.Machine
end

section
/-! The decoder against the encoder and the opcode table (spec/30_encoding.md R90 to R96): which bits of a word it reads, and
that every word matches the row of the instruction it decodes to. -/

namespace Sys2Proof

/-! ### The fields of a write's data (R91, R92) -/

@[simp] theorem ctrlData_cmd (cmd var : BitVec 2) (pu ie : Bool) : (ctrlData cmd var pu ie).extractLsb' 0 2 = cmd := by
  revert cmd var pu ie
  decide

@[simp] theorem ctrlData_var (cmd var : BitVec 2) (pu ie : Bool) : (ctrlData cmd var pu ie).extractLsb' 2 2 = var := by
  revert cmd var pu ie
  decide

@[simp] theorem ctrlData_pu (cmd var : BitVec 2) (pu ie : Bool) : (ctrlData cmd var pu ie)[4] = pu := by
  revert cmd var pu ie
  decide

@[simp] theorem ctrlData_ie (cmd var : BitVec 2) (pu ie : Bool) : (ctrlData cmd var pu ie)[5] = ie := by
  revert cmd var pu ie
  decide

@[simp] theorem statusData_clrDone (clrDone clrOvr clrCmderr : Bool) :
    (statusData clrDone clrOvr clrCmderr)[7] = clrDone := by
  revert clrDone clrOvr clrCmderr
  decide

@[simp] theorem statusData_clrOvr (clrDone clrOvr clrCmderr : Bool) :
    (statusData clrDone clrOvr clrCmderr)[8] = clrOvr := by
  revert clrDone clrOvr clrCmderr
  decide

@[simp] theorem statusData_clrCmderr (clrDone clrOvr clrCmderr : Bool) :
    (statusData clrDone clrOvr clrCmderr)[9] = clrCmderr := by
  revert clrDone clrOvr clrCmderr
  decide

/-- CTRL's fields are the low six bits of its write data. -/
theorem ctrlData_fields (d : Word) :
    ctrlData (d.extractLsb' 0 2) (d.extractLsb' 2 2) (d.getLsbD 4) (d.getLsbD 5) = d &&& 0x3F#32 := by
  apply BitVec.eq_of_getLsbD_eq
  intro i hi
  simp only [ctrlData, BitVec.getLsbD_append]
  interval_cases i <;> simp

/-- The decoder reads the low six bits of a CTRL write, and no others (R91). -/
theorem decodeCtrl_and_fields (d : Word) : decodeCtrl (d &&& 0x3F#32) = decodeCtrl d := by
  rw [← ctrlData_fields]
  simp [decodeCtrl]

/-- The decoder reads bits 9:7 of a STATUS write, and no others (R92). -/
theorem decodeWrite_status_and_fields (d : Word) : decodeWrite 0x04#7 (d &&& 0x380#32) = decodeWrite 0x04#7 d := by
  simp [decodeWrite]

/-- The decoder reads no data of a write to any other register (R96). -/
theorem decodeWrite_congr {a : Offset} (hctrl : a ≠ 0x00#7) (hstatus : a ≠ 0x04#7) (d d' : Word) :
    decodeWrite a d = decodeWrite a d' := by
  simp only [decodeWrite, if_neg hctrl, if_neg hstatus]

/-- Settles O4: the decoder sees the fields of the word only, and of the data the fields of CTRL and STATUS only. -/
theorem ignoredBitsDoNotDecode : Obligations.IgnoredBitsDoNotDecode := by
  refine ⟨fun a d d' => ?_, fun d d' h => ?_, fun d d' h => ?_, fun a d d' hctrl hstatus => ?_⟩
  all_goals simp only [decode_mkTW, if_true, Bool.false_eq_true, if_false]
  · change decodeCtrl d = decodeCtrl d'
    rw [← decodeCtrl_and_fields, h, decodeCtrl_and_fields]
  · rw [← decodeWrite_status_and_fields, h, decodeWrite_status_and_fields]
  · exact decodeWrite_congr hctrl hstatus d d'

/-! ### Offsets without a register (R95, R130) -/

/-- The offsets of the eight registers (R40). -/
theorem mappedOffset_iff_mem (a : Offset) :
    MappedOffset a ↔ a ∈ [0x00#7, 0x04#7, 0x08#7, 0x0C#7, 0x10#7, 0x14#7, 0x18#7, 0x1C#7] := by
  revert a
  decide

theorem decodeWrite_of_not_mapped {a : Offset} (h : ¬ MappedOffset a) (d : Word) : decodeWrite a d = .unmapped true a := by
  simp only [mappedOffset_iff_mem, List.mem_cons, List.not_mem_nil, or_false, not_or] at h
  simp [decodeWrite, h]

theorem decodeRead_of_not_mapped {a : Offset} (h : ¬ MappedOffset a) : decodeRead a = .unmapped false a := by
  simp only [mappedOffset_iff_mem, List.mem_cons, List.not_mem_nil, or_false, not_or] at h
  simp [decodeRead, h]

theorem wellFormed_decodeCtrl (d : Word) : WellFormed (decodeCtrl d) := by
  unfold decodeCtrl
  dsimp only
  split_ifs <;> rfl

theorem wellFormed_decodeWrite (a : Offset) (d : Word) : WellFormed (decodeWrite a d) := by
  by_cases ha : MappedOffset a
  · unfold decodeWrite
    rw [mappedOffset_iff_mem] at ha
    split_ifs
    case pos => exact wellFormed_decodeCtrl d
    case neg => simp_all
    all_goals rfl
  · rw [decodeWrite_of_not_mapped ha]
    exact decide_eq_true ha

theorem wellFormed_decodeRead (a : Offset) : WellFormed (decodeRead a) := by
  revert a
  decide

theorem wellFormed_decode (w : TW) : WellFormed (decode w) := by
  rw [decode]
  split
  · exact wellFormed_decodeWrite _ _
  · exact wellFormed_decodeRead _

theorem decode_encode {i : Instr} (h : WellFormed i) : decode (encode i) = i := by
  cases i with
  | unmapped we a =>
    have ha : ¬ MappedOffset a := of_decide_eq_true h
    cases we <;> simp [encode, decode_mkTW, decodeWrite_of_not_mapped ha, decodeRead_of_not_mapped ha]
  | _ => simp [encode, decode_mkTW, decodeWrite, decodeRead, decodeCtrl]

/-- Settles O2: the fields an instruction is encoded with are those it is decoded from. -/
theorem decodeInvertsEncode : Obligations.DecodeInvertsEncode :=
  ⟨fun _ => decode_encode, wellFormed_decode⟩

/-- Settles O1, by running the decoder on the words. -/
theorem wordsDecodeAsTheMapSays : Obligations.WordsDecodeAsTheMapSays := by
  unfold Obligations.WordsDecodeAsTheMapSays
  decide

/-! ### Masking a word -/

theorem mkTW_and (we we' : Bool) (a a' : Offset) (d d' : Word) :
    mkTW we a d &&& mkTW we' a' d' = mkTW (we && we') (a &&& a') (d &&& d') := by
  apply BitVec.eq_of_getLsbD_eq
  intro i _
  simp only [mkTW, BitVec.getLsbD_and, BitVec.getLsbD_append]
  split_ifs
  · rfl
  · rfl
  · rw [← BitVec.getLsbD_and, BitVec.ofBool_and_ofBool]

theorem twAddr_and (w m : TW) : twAddr (w &&& m) = twAddr w &&& twAddr m :=
  BitVec.extractLsb'_and ..

theorem offset_and_all (a : Offset) : a &&& 0x7F#7 = a :=
  BitVec.and_allOnes

/-! ### The row of an instruction (R94, R95) -/

/-- The data bits that tell an instruction from the others of its offset and direction. -/
def Instr.opcodeData : Instr → Word
  | .ctrlNop _ _ _ | .ctrlInit _ _ _ | .ctrlCmdRsvd => 0x3#32
  | .ctrlReadDht11 _ _ | .ctrlReadDht22 _ _ | .ctrlReadSi7021 _ _ | .ctrlReadRsvd => 0xF#32
  | _ => 0#32

/-- The row of an instruction: the whole of WE and ADDR, and its opcode bits of the data. -/
def Instr.row (i : Instr) : OpcodeRow :=
  let mask := mkTW true 0x7F#7 i.opcodeData
  ⟨i.mnemonic, encode i &&& mask, mask⟩

/-- `Instr.row` gives the rows of the table, and those of UNMAPPED accesses beside them. -/
theorem row_mem_mappedRows {i : Instr} (h : i.mnemonic ≠ "UNMAPPED") : i.row ∈ mappedRows := by
  cases i with
  | ctrlNop var pu ie => revert var pu ie; decide
  | ctrlInit var pu ie => revert var pu ie; decide
  | ctrlReadDht11 pu ie => revert pu ie; decide
  | ctrlReadDht22 pu ie => revert pu ie; decide
  | ctrlReadSi7021 pu ie => revert pu ie; decide
  | wrStatus clrDone clrOvr clrCmderr => revert clrDone clrOvr clrCmderr; decide
  | unmapped we a => exact absurd rfl h
  | _ => decide

/-- A word matches the row of an instruction by its direction, its offset and its opcode bits. -/
theorem row_matches_mkTW_iff {i : Instr} {we : Bool} {a : Offset} {d : Word} : i.row.Matches (mkTW we a d) ↔
    mkTW we a (d &&& i.opcodeData) = encode i &&& mkTW true 0x7F#7 i.opcodeData := by
  have hmask : mkTW we a d &&& mkTW true 0x7F#7 i.opcodeData = mkTW we a (d &&& i.opcodeData) := by
    rw [mkTW_and, Bool.and_true, offset_and_all]
  rw [← hmask]
  rfl

/-- Where an instruction has no opcode bits in the data, all words of its direction and offset match its row. -/
theorem row_matches_of_encode_eq {i : Instr} {we : Bool} {a : Offset} {d' : Word} (he : encode i = mkTW we a d')
    (hi : i.opcodeData = 0#32) (d : Word) : i.row.Matches (mkTW we a d) := by
  rw [row_matches_mkTW_iff, he, mkTW_and, hi, Bool.and_true, offset_and_all, BitVec.and_zero, BitVec.and_zero]

/-- The opcode bits are among CTRL's fields. -/
theorem and_fields_and_opcodeData (d : Word) (i : Instr) : d &&& 0x3F#32 &&& i.opcodeData = d &&& i.opcodeData := by
  have hsub : 0x3F#32 &&& i.opcodeData = i.opcodeData := by
    cases i <;> simp [Instr.opcodeData]
  rw [BitVec.and_assoc, hsub]

theorem decodeCtrl_row_matches_ctrlData (cmd var : BitVec 2) (pu ie : Bool) :
    (decodeCtrl (ctrlData cmd var pu ie)).row.Matches (mkTW true 0x00#7 (ctrlData cmd var pu ie)) := by
  revert cmd var pu ie
  decide

theorem decodeCtrl_row_matches (d : Word) : (decodeCtrl d).row.Matches (mkTW true 0x00#7 d) := by
  have h := decodeCtrl_row_matches_ctrlData (d.extractLsb' 0 2) (d.extractLsb' 2 2) (d.getLsbD 4) (d.getLsbD 5)
  rwa [ctrlData_fields, decodeCtrl_and_fields, row_matches_mkTW_iff, and_fields_and_opcodeData, ← row_matches_mkTW_iff] at h

theorem decodeWrite_row_matches (a : Offset) (d : Word) : (decodeWrite a d).row.Matches (mkTW true a d) := by
  unfold decodeWrite
  split_ifs with h h h h h h h h
  case neg => exact row_matches_of_encode_eq rfl rfl d
  all_goals subst h
  case pos => exact decodeCtrl_row_matches d
  all_goals exact row_matches_of_encode_eq rfl rfl d

theorem decodeRead_row_matches (a : Offset) (d : Word) : (decodeRead a).row.Matches (mkTW false a d) := by
  unfold decodeRead
  split_ifs with h h h h h h h h
  case neg => exact row_matches_of_encode_eq rfl rfl d
  all_goals
    subst h
    exact row_matches_of_encode_eq rfl rfl d

/-- Every word matches the row of the instruction it decodes to. -/
theorem decode_row_matches (w : TW) : (decode w).row.Matches w := by
  rw [← mkTW_fields w, decode_mkTW]
  cases twWe w
  · exact decodeRead_row_matches _ _
  · exact decodeWrite_row_matches _ _

/-! ### The mapped rows (R94) -/

theorem mappedRows_mnemonic_ne : ∀ r ∈ mappedRows, r.mnemonic ≠ "UNMAPPED" := by
  decide

theorem mappedRows_mnemonic_injective : ∀ r ∈ mappedRows, ∀ r' ∈ mappedRows, r.mnemonic = r'.mnemonic → r = r' := by
  decide

/-- Every mapped row fixes the whole offset, to that of a register. -/
theorem mappedRows_offset : ∀ r ∈ mappedRows, MappedOffset (twAddr r.pattern) ∧ twAddr r.mask = 0x7F#7 := by
  decide

/-- Two rows differ in a bit that both fix. -/
theorem mappedRows_differ : ∀ r ∈ mappedRows, ∀ r' ∈ mappedRows,
    r.pattern &&& r'.mask = r'.pattern &&& r.mask → r = r' := by
  decide

/-- No word matches two rows: it would agree with both where both fix a bit. -/
theorem mappedRows_eq_of_matches {w : TW} {r r' : OpcodeRow} (hr : r ∈ mappedRows) (hr' : r' ∈ mappedRows)
    (h : r.Matches w) (h' : r'.Matches w) : r = r' := by
  apply mappedRows_differ r hr r' hr'
  rw [← h, ← h', BitVec.and_assoc, BitVec.and_comm r.mask, ← BitVec.and_assoc]

theorem mappedOffset_of_matches {w : TW} {r : OpcodeRow} (hr : r ∈ mappedRows) (h : r.Matches w) :
    MappedOffset (twAddr w) := by
  obtain ⟨hoff, hmask⟩ := mappedRows_offset r hr
  rwa [← h, twAddr_and, hmask, offset_and_all] at hoff

/-- A word that decodes to an instruction has the offset of the instruction's own word. -/
theorem twAddr_encode_decode (w : TW) : twAddr (encode (decode w)) = twAddr w := by
  have hmask : twAddr (decode w).row.mask = 0x7F#7 := twAddr_mkTW ..
  have h : twAddr (w &&& (decode w).row.mask) = twAddr (encode (decode w) &&& (decode w).row.mask) :=
    congrArg twAddr (decode_row_matches w)
  rw [twAddr_and, twAddr_and, hmask, offset_and_all, offset_and_all] at h
  exact h.symm

/-- A word with a register's offset is no UNMAPPED access. -/
theorem decode_mnemonic_ne_unmapped {w : TW} (h : MappedOffset (twAddr w)) : (decode w).mnemonic ≠ "UNMAPPED" := by
  have hwf := wellFormed_decode w
  have haddr := twAddr_encode_decode w
  cases hi : decode w with
  | unmapped we a =>
    rw [hi, encode, twAddr_mkTW] at haddr
    rw [hi, haddr] at hwf
    exact absurd h (of_decide_eq_true hwf)
  | _ => simp [Instr.mnemonic]

theorem matches_iff_decode_mnemonic {w : TW} {r : OpcodeRow} (hr : r ∈ mappedRows) :
    r.Matches w ↔ (decode w).mnemonic = r.mnemonic := by
  constructor
  · intro h
    have hmem := row_mem_mappedRows (decode_mnemonic_ne_unmapped (mappedOffset_of_matches hr h))
    rw [mappedRows_eq_of_matches hr hmem h (decode_row_matches w)]
    rfl
  · intro h
    have hmem := row_mem_mappedRows (h ▸ mappedRows_mnemonic_ne r hr)
    rw [mappedRows_mnemonic_injective r hr _ hmem h.symm]
    exact decode_row_matches w

/-- Settles O3: the mapped rows exclude each other, and the row of the decoded instruction is the one that matches. -/
theorem decodeAgreesWithTheOpcodeTable : Obligations.DecodeAgreesWithTheOpcodeTable := by
  refine ⟨fun w r r' => mappedRows_eq_of_matches, fun w r => matches_iff_decode_mnemonic, fun w => ⟨fun h => ?_, ?_⟩⟩
  · by_contra hne
    exact h _ (row_mem_mappedRows hne) (decode_row_matches w)
  · intro hu r hr h
    exact mappedRows_mnemonic_ne r hr (((matches_iff_decode_mnemonic hr).mp h).symm.trans hu)

end Sys2Proof
end

section
/-! The tick part against the host part of its edge (spec/40_host_commands.md R110, log 13): a busy host part touches the
sticky flags and the edge's outputs only, and the tick rules read neither. -/

namespace Sys2Proof.Machine

/-- While busy a transaction touches only the sticky flags and the edge's outputs (R111). -/
theorem exec_busy_sameButFlags {i : Instr} {s h : State} (hb : s.busy = true) (he : exec i s = .next h) :
    SameButFlags s h := by
  rcases exec_next he with ⟨-, -, rfl⟩ | ⟨hr, -⟩ | ⟨hr, -⟩ | ⟨hr, -⟩ | ⟨hr, -⟩ | ⟨_, _, _, -, rfl⟩ | ⟨-, -, _, rfl⟩
  case inl | inr.inr.inr.inr.inr.inl | inr.inr.inr.inr.inr.inr => rfl
  all_goals simp [hb] at hr

/-- States that agree behind the host's side, and in the stored CTRL fields and the model's own, differ in the sticky flags and
the edge's outputs only. -/
theorem sameButFlags_of_blankHost {s t : State} (h : blankHost t = blankHost s) (hvar : t.ctrlVariant = s.ctrlVariant)
    (hpu : t.ctrlPu = s.ctrlPu) (hie : t.ctrlIe = s.ctrlIe) (hin : t.inputs = s.inputs) (hed : t.edges = s.edges) :
    SameButFlags s t := by
  change { blankHost t with
    ctrlVariant := t.ctrlVariant, ctrlPu := t.ctrlPu, ctrlIe := t.ctrlIe
    doneF := t.doneF, ovrF := t.ovrF, cmderrF := t.cmderrF
    busRdata := t.busRdata, padCfgReq := t.padCfgReq, padCfgPu := t.padCfgPu
    inputs := t.inputs, edges := t.edges } = _
  rw [h, hvar, hpu, hie, hin, hed]
  rfl

/-- A tick computes the same from two busy states that differ in the sticky flags and the edge's outputs only. -/
theorem sameButFlags_tick (padIn : Bool) {s h : State} (hb : s.busy = true) (hf : SameButFlags s h) :
    SameButFlags (tick padIn s) (tick padIn h) := by
  have hbh : h.busy = true := by rw [busy_congr (s := s) (by rw [hf]), hb]
  obtain ⟨-, hin, hed, -, -, -, -, -, -, hvar, hpu, hie, -⟩ := tick_frame padIn hb
  obtain ⟨-, hin', hed', -, -, -, -, -, -, hvar', hpu', hie', -⟩ := tick_frame padIn hbh
  apply sameButFlags_of_blankHost ((hostBlind_tick padIn).congr (blankHost_of_sameButFlags hf))
  · rw [hvar, hvar', hf]
  · rw [hpu, hpu', hf]
  · rw [hie, hie', hf]
  · rw [hin, hin', hf]
  · rw [hed, hed', hf]

/-- The tick that ends a read sets DONE, and no other tick touches it (R171, R182). -/
theorem tick_doneF (padIn : Bool) {s : State} (hb : s.busy = true) :
    (tick padIn s).doneF = if (tick padIn s).busy then s.doneF else true := by
  rcases tick_outcome padIn hb with h | ⟨_, _, _, h, -⟩ | ⟨-, -, _, _, _, _, _, _, _, h⟩
  · rw [if_pos h.busy, h.frame]
  · rw [h, failEntry_doneF, if_neg (by simp [State.busy, SeqState.isBusy])]
  · rw [h, if_neg (by simp [State.busy, SeqState.isBusy])]

/-- Settles O6: the tick from `h` and the tick from `s` differ in the flags and outputs only, and those a tick leaves alone,
but for DONE. -/
theorem tickPartReadsTheStateBefore : Obligations.TickPartReadsTheStateBefore := by
  intro i s h padIn hb he
  have hf := exec_busy_sameButFlags hb he
  have ht := sameButFlags_tick padIn hb hf
  have hbh : h.busy = true := by rw [busy_congr (s := s) (by rw [hf]), hb]
  have hbusy : (tick padIn h).busy = (tick padIn s).busy := busy_congr (by rw [ht])
  obtain ⟨-, -, -, -, -, -, -, hovr, hcmd, -, -, -, hrd, hreq, hcpu, -⟩ := tick_frame padIn hbh
  rwa [SameButFlags, tick_doneF padIn hbh, hbusy, hovr, hcmd, hrd, hreq, hcpu] at ht

/-- Settles O5, from the equations of `step`. -/
theorem stepRunsTheDecodedTransaction : Obligations.StepRunsTheDecodedTransaction := by
  intro s hl hr tail
  refine ⟨fun w h hw he => step_of_hostPart hl hr (.inr ⟨w, hw, he⟩), fun w f hw he => step_of_exec_fault hl hr hw he,
    fun hv => step_of_hostPart hl hr (.inl ⟨?_, rfl⟩), fun hv => ?_⟩
  · simp [busTransaction, hv]
  · simp [busTransaction, hv]

end Sys2Proof.Machine
end

section
/-! The CTRL writes (spec/40_host_commands.md R111 to R119): what each acceptance does to a resting state, and what no CTRL
write touches. -/

namespace Sys2Proof.Machine

/-! ### Acceptance -/

section
variable {var : BitVec 2} {pu ie : Bool} {s : State} (hb : s.busy = false)
include hb

theorem ctrlWrite_nop_of_rest : ctrlWrite .nop var pu ie s = .next (storeCtrl var pu ie (respond 0#32 s)) := by
  simp [ctrlWrite, hb]

theorem ctrlWrite_init_of_rest : ctrlWrite .init var pu ie s =
    .next (initAccept pu (edgeInput s).padCfgReject (storeCtrl var pu ie (respond 0#32 s))) := by
  simp [ctrlWrite, hb]

theorem ctrlWrite_read_of_rest (v : Variant) (hin : s.initDone = true) :
    ctrlWrite (.read v) var pu ie s = .next (readAccept v (storeCtrl var pu ie (respond 0#32 s))) := by
  simp [ctrlWrite, hb, hin]

end

/-- Settles O14. -/
theorem nopStoresItsFields : Obligations.NopStoresItsFields :=
  fun _ _ _ _ hb => ctrlWrite_nop_of_rest hb

/-- Settles O15, for either answer of the platform. -/
theorem initTakesThePlatformsAnswer : Obligations.InitTakesThePlatformsAnswer := by
  intro var pu ie s hb
  have he : exec (.ctrlInit var pu ie) s = _ := ctrlWrite_init_of_rest hb
  constructor <;> intro hr <;> rw [he, hr] <;> rfl

/-- READ acceptance clears DONE, whatever it was (R117). -/
theorem readAccept_eq (v : Variant) (s : State) : readAccept v s = { readAccept v s with doneF := false } := by
  simp [readAccept]

/-- Settles O16: each READ is the acceptance of its variant. -/
theorem readStartsFresh : Obligations.ReadStartsFresh := by
  intro pu ie s hb hin started
  have haccept : ∀ v, ctrlWrite (.read v) v.code pu ie s = .next (started v v.code) := fun v => by
    rw [ctrlWrite_read_of_rest hb v hin, readAccept_eq]
    rfl
  exact ⟨haccept .dht11, haccept .dht22, haccept .si7021, fun _ _ => ⟨rfl, rfl, rfl⟩⟩

/-! ### Frames -/

/-- Outside CTRL and STATUS the window shows the results. -/
theorem readValue_of_sameResults {s t : State} (h : SameResults s t) {a : Offset} (hctrl : a ≠ 0x00#7)
    (hstatus : a ≠ 0x04#7) : readValue t a = readValue s a := by
  obtain ⟨-, hraw, hhum, hmag, hneg, hhumF, htempF⟩ := h
  simp only [readValue, if_neg hctrl, if_neg hstatus, rawLoValue, rawHiValue, humX10Value, tempX10Value, humF32Value,
    tempF32Value, hraw, hhum, hmag, hneg, hhumF, htempF]

/-- A reserved CTRL write sets OVR or CMD_ERR and touches nothing else (R118, R119). -/
theorem exec_reserved_frame {i : Instr} {s t : State} (hi : i = .ctrlReadRsvd ∨ i = .ctrlCmdRsvd)
    (h : exec i s = .next t) :
    t = { s with
      ovrF := t.ovrF, cmderrF := t.cmderrF
      busRdata := t.busRdata, padCfgReq := t.padCfgReq, padCfgPu := t.padCfgPu } := by
  have hw : ∃ var, ctrlWrite .reserved var false false s = .next t := by
    rcases hi with rfl | rfl
    · exact ⟨0b11#2, h⟩
    · exact ⟨0b00#2, h⟩
  obtain ⟨_, hw⟩ := hw
  rcases ctrlWrite_next hw with ⟨-, rfl⟩ | ⟨-, -, rfl⟩ | ⟨-, ⟨⟩, -⟩ | ⟨-, ⟨⟩, -⟩ | ⟨-, _, ⟨⟩, -⟩ <;> rfl

/-- Only an accepted READ touches the results (R111 to R119). -/
theorem ctrlWrite_sameResults {cmd : CtrlCommand} {var : BitVec 2} {pu ie : Bool} {s t : State}
    (h : ctrlWrite cmd var pu ie s = .next t) (hcmd : ∀ v, cmd ≠ .read v) : SameResults s t := by
  rcases ctrlWrite_next h with ⟨-, rfl⟩ | ⟨-, -, rfl⟩ | ⟨-, -, rfl⟩ | ⟨-, -, rfl⟩ | ⟨-, v, hv, -⟩
  case inr.inr.inr.inr => exact absurd hv (hcmd v)
  all_goals simp [SameResults]

/-- Settles O23: a NOP and a reserved write touch no result, the latter no CTRL field either. -/
theorem frameOfNopAndReservedWrites : Obligations.FrameOfNopAndReservedWrites := by
  constructor
  · intro var pu ie s t h
    change ctrlWrite .nop var pu ie s = .next t at h
    have hresults : SameResults s t := ctrlWrite_sameResults h (by simp)
    refine ⟨?_, fun _ => readValue_of_sameResults hresults⟩
    rcases ctrlWrite_next h with ⟨-, rfl⟩ | ⟨-, ⟨⟩, -⟩ | ⟨-, -, rfl⟩ | ⟨-, ⟨⟩, -⟩ | ⟨-, _, ⟨⟩, -⟩ <;> rfl
  · intro i s t hi h
    have hf := exec_reserved_frame hi h
    have hflags : SameButFlags s t := by rw [hf]
    exact ⟨hf, fun a => readValue_of_sameButFlags hflags⟩

/-- Settles O24: a dropped INIT sets OVR, and an accepted one writes the same registers whatever the platform's answer. -/
theorem frameOfInit : Obligations.FrameOfInit := by
  intro var pu ie s t h
  change ctrlWrite .init var pu ie s = .next t at h
  have hresults : SameResults s t := ctrlWrite_sameResults h (by simp)
  refine ⟨?_, fun _ => readValue_of_sameResults hresults⟩
  rcases ctrlWrite_next h with ⟨-, rfl⟩ | ⟨-, ⟨⟩, -⟩ | ⟨-, ⟨⟩, -⟩ | ⟨-, -, rfl⟩ | ⟨-, _, ⟨⟩, -⟩
  · rfl
  · cases (edgeInput s).padCfgReject <;> rfl

/-- A READ is the CTRL write of its variant (R114 to R116). -/
theorem exec_of_readVariant {i : Instr} {v : Variant} (hi : i.readVariant = some v) :
    ∃ pu ie, ∀ s, exec i s = ctrlWrite (.read v) v.code pu ie s := by
  cases i <;> cases hi <;> exact ⟨_, _, fun _ => rfl⟩

/-- Settles O25: a dropped READ sets OVR only, and an accepted one leaves these registers alone. -/
theorem frameOfReadCommands : Obligations.FrameOfReadCommands := by
  intro i s t hi h
  obtain ⟨v, hv⟩ := Option.isSome_iff_exists.mp hi
  obtain ⟨pu, ie, he⟩ := exec_of_readVariant hv
  rw [he] at h
  rcases ctrlWrite_next h with ⟨hb, rfl⟩ | ⟨-, ⟨⟩, -⟩ | ⟨-, ⟨⟩, -⟩ | ⟨-, ⟨⟩, -⟩ | ⟨-, _, -, -, rfl⟩
  · simp [hb]
  · simp

end Sys2Proof.Machine
end

section
/-! The transactions other than CTRL writes (spec/40_host_commands.md R120 to R130). -/

namespace Sys2Proof.Machine

/-- Settles O17: with no set request, the merge of R110 is the clear alone. -/
theorem statusWriteClearsTheNamedFlags : Obligations.StatusWriteClearsTheNamedFlags := by
  have hmerge : ∀ f clear, mergeFlag f clear false = (f && !clear) := fun _ _ => Bool.or_false _
  intro clrDone clrOvr clrCmderr s
  simp only [← hmerge]
  rfl

/-- Settles O18: the offset alone picks the row, and the row's meaning is to answer 0. -/
theorem resultRegisterWritesChangeNothing : Obligations.ResultRegisterWritesChangeNothing := by
  constructor
  · intro d
    simp only [decode_mkTW]
    exact ⟨rfl, rfl, rfl, rfl, rfl, rfl⟩
  · exact fun _ => ⟨rfl, rfl, rfl, rfl, rfl, rfl⟩

/-- A word at an offset without a register is an UNMAPPED access of its own direction and offset (R130). -/
theorem decode_of_not_mapped {w : TW} (h : ¬ MappedOffset (twAddr w)) : decode w = .unmapped (twWe w) (twAddr w) := by
  cases hwe : twWe w with
  | false => rw [decode_of_read hwe, decodeRead_of_not_mapped h]
  | true => rw [decode, if_pos hwe, decodeWrite_of_not_mapped h]

/-- Settles O19: a misaligned or reserved offset is no register's. -/
theorem unmappedAccessesAreInert : Obligations.UnmappedAccessesAreInert :=
  ⟨fun _ h => decode_of_not_mapped fun ⟨haligned, hlow⟩ => h.elim (· haligned) (Nat.not_le.mpr hlow),
    fun _ _ _ => rfl⟩

/-- Settles O20: each layout is the one the model's register values are defined by. -/
theorem registerReads : Obligations.RegisterReads :=
  fun _ => ⟨rfl, rfl, rfl, rfl, rfl, rfl, rfl, rfl⟩

end Sys2Proof.Machine
end

section
/-! The timing monitor (spec/41_gpio_timing.md R142 to R149): what one tick of AWAIT answers, and where a whole wait ends. -/

namespace Sys2Proof.Machine

/-! ### One tick of a wait -/

theorem lastSample_le (p timeout : Nat) : lastSample p timeout ≤ timeout := Nat.div_mul_le_self timeout p

/-- LAST(T) is the last sample point (R144). -/
theorem le_lastSample_of_mod_eq_zero {p timeout t : Nat} (hmod : t % p = 0) (hle : t ≤ timeout) :
    t ≤ lastSample p timeout := by
  calc t = t / p * p := (Nat.div_mul_cancel (Nat.dvd_of_mod_eq_zero hmod)).symm
    _ ≤ timeout / p * p := Nat.mul_le_mul_right p (Nat.div_le_div_right hle)

section
variable {p timeout count : Nat} {level padIn : Bool}

theorem await_of_seen (hmod : (count + 1) % p = 0) (hle : count + 1 ≤ timeout) (hline : padIn = level) :
    await p timeout level padIn count = .seen (count + 1) := by
  rcases await_cases p timeout level padIn count with ⟨h, -⟩ | ⟨-, -, hn⟩ | ⟨-, -, hn⟩
  · exact h
  · exact absurd ⟨hmod, hle, hline⟩ hn
  · exact absurd ⟨hmod, hle, hline⟩ hn

theorem await_of_unseen_before_last (hn : ¬ ((count + 1) % p = 0 ∧ padIn = level))
    (hlast : count + 1 < lastSample p timeout) : await p timeout level padIn count = .pending (count + 1) := by
  rcases await_cases p timeout level padIn count with ⟨-, hmod, -, hline⟩ | ⟨-, hge, -⟩ | ⟨h, -⟩
  · exact absurd ⟨hmod, hline⟩ hn
  · omega
  · exact h

theorem await_of_unseen_at_last (hn : ¬ ((count + 1) % p = 0 ∧ count + 1 ≤ timeout ∧ padIn = level))
    (hlast : lastSample p timeout ≤ count + 1) : await p timeout level padIn count = .timeout := by
  rcases await_cases p timeout level padIn count with ⟨-, hseen⟩ | ⟨h, -⟩ | ⟨-, hlt, -⟩
  · exact absurd hseen hn
  · exact h
  · omega

end

/-- Settles O37: a seen tick is a sample point, and those lie on the grid up to LAST(T). -/
theorem seenDurationsLieOnTheGrid : Obligations.SeenDurationsLieOnTheGrid := by
  intro p timeout d count level padIn _ h
  rcases await_cases p timeout level padIn count with ⟨hs, hmod, hle, hline⟩ | ⟨ht, -⟩ | ⟨hp, -⟩
  · obtain rfl : count + 1 = d := AwaitResult.seen.inj (hs.symm.trans h)
    exact ⟨rfl, hmod, Nat.le_of_dvd count.succ_pos (Nat.dvd_of_mod_eq_zero hmod), le_lastSample_of_mod_eq_zero hmod hle,
      lastSample_le p timeout, hline⟩
  · cases ht.symm.trans h
  · cases hp.symm.trans h

/-! ### A whole wait -/

section
variable {p timeout : Nat} {level : Bool} {line : Nat → Bool}

theorem awaitRun_succ_of_pending {fuel count t : Nat}
    (h : await p timeout level (line (count + 1)) count = .pending t) :
    awaitRun p timeout level line (fuel + 1) count = awaitRun p timeout level line fuel t := by
  simp only [awaitRun, h]

theorem awaitRun_succ_of_seen {fuel count d : Nat} (h : await p timeout level (line (count + 1)) count = .seen d) :
    awaitRun p timeout level line (fuel + 1) count = some (count + 1, .seen d) := by
  simp only [awaitRun, h]

theorem awaitRun_succ_of_timeout {fuel count : Nat} (h : await p timeout level (line (count + 1)) count = .timeout) :
    awaitRun p timeout level line (fuel + 1) count = some (count + 1, .timeout) := by
  simp only [awaitRun, h]

/-- A wait passes over `n` ticks before LAST(T) none of which samples the level. -/
theorem awaitRun_skips_unseen {n : Nat} (hlast : n < lastSample p timeout)
    (hn : ∀ j, 1 ≤ j → j ≤ n → ¬ (j % p = 0 ∧ line j = level)) (fuel : Nat) :
    awaitRun p timeout level line (n + fuel) 0 = awaitRun p timeout level line fuel n := by
  induction n generalizing fuel with
  | zero => rw [Nat.zero_add]
  | succ n ih =>
    have hskip := ih (by omega) (fun j h1 hj => hn j h1 (by omega)) (fuel + 1)
    rw [Nat.add_right_comm, Nat.add_assoc, hskip]
    exact awaitRun_succ_of_pending (await_of_unseen_before_last (hn (n + 1) (by omega) le_rfl) hlast)

/-- A wait ends by the tick LAST(T), or in the tick that finds it past LAST(T) (R147, R149). -/
theorem awaitRun_ends {fuel count : Nat} (hpos : 1 ≤ fuel) (hfuel : lastSample p timeout ≤ count + fuel) :
    ∃ n r, n ≤ count + fuel ∧ awaitRun p timeout level line fuel count = some (n, r) ∧ (r = .seen n ∨ r = .timeout) := by
  induction fuel generalizing count with
  | zero => omega
  | succ fuel ih =>
    rcases await_cases p timeout level (line (count + 1)) count with ⟨h, -⟩ | ⟨h, -⟩ | ⟨h, hlt, -⟩
    · exact ⟨count + 1, _, by omega, awaitRun_succ_of_seen h, .inl rfl⟩
    · exact ⟨count + 1, _, by omega, awaitRun_succ_of_timeout h, .inr rfl⟩
    · rw [awaitRun_succ_of_pending h, ← Nat.add_assoc, Nat.add_right_comm]
      exact ih (by omega) (by omega)

end

/-- Settles O38: no sample point before tick Pk is at or after tick r, so none of them sees the level, and Pk does. -/
theorem waitRoundsUpToTheGrid : Obligations.WaitRoundsUpToTheGrid := by
  intro p timeout r k level line hp hk hlow hr hlast hbefore hafter
  have hpos : 1 ≤ p * k := Nat.mul_pos hp hk
  obtain ⟨n, hn⟩ : ∃ n, p * k = n + 1 := ⟨p * k - 1, by omega⟩
  have hunseen : ∀ j, 1 ≤ j → j ≤ n → ¬ (j % p = 0 ∧ line j = level) := by
    rintro j h1 hj ⟨hmod, hline⟩
    obtain ⟨q, rfl⟩ := Nat.dvd_of_mod_eq_zero hmod
    have hq : q < k := Nat.lt_of_mul_lt_mul_left (a := p) (by omega)
    have hgrid : p * q ≤ p * (k - 1) := Nat.mul_le_mul_left p (by omega)
    exact hbefore _ h1 (by omega) hline
  have hseen : await p timeout level (line (n + 1)) n = .seen (n + 1) :=
    await_of_seen (hn ▸ Nat.mul_mod_right p k) (hn ▸ hlast.trans (lastSample_le p timeout))
      (hafter _ (by omega) (by omega))
  rw [hn, awaitRun_skips_unseen (by omega) hunseen 1]
  exact awaitRun_succ_of_seen hseen

/-- Settles O39: a wait without a sample point has LAST(T) = 0, so its first tick is past it. -/
theorem waitTimesOutAtTheLastSample : Obligations.WaitTimesOutAtTheLastSample := by
  intro p timeout level line hp
  refine ⟨fun hsample hline => ?_, fun hnone => ?_, ?_⟩
  · have hpos : p ≤ lastSample p timeout := le_lastSample_of_mod_eq_zero (Nat.mod_self p) hsample
    obtain ⟨n, hn⟩ : ∃ n, lastSample p timeout = n + 1 := ⟨lastSample p timeout - 1, by omega⟩
    have hunseen : ∀ j, 1 ≤ j → j ≤ n + 1 → ¬ (j % p = 0 ∧ line j = level) :=
      fun j h1 hj ⟨hmod, hl⟩ => hline j h1 (by omega) hmod hl
    rw [hn, awaitRun_skips_unseen (by omega) (fun j h1 hj => hunseen j h1 (by omega)) 1]
    exact awaitRun_succ_of_timeout (await_of_unseen_at_last
      (fun ⟨hmod, _, hl⟩ => hunseen (n + 1) (by omega) le_rfl ⟨hmod, hl⟩) hn.le)
  · have hlast : lastSample p timeout = 0 := by simp [lastSample, Nat.div_eq_of_lt hnone]
    refine awaitRun_succ_of_timeout (await_of_unseen_at_last (fun ⟨hmod, hle, _⟩ => ?_) (by omega))
    have hsample := le_lastSample_of_mod_eq_zero hmod hle
    omega
  · have hends := awaitRun_ends (p := p) (timeout := timeout) (level := level) (line := line) (count := 0)
      (le_max_left 1 (lastSample p timeout)) (by rw [Nat.zero_add]; exact le_max_right _ _)
    rwa [Nat.zero_add] at hends

end Sys2Proof.Machine
end

section
/-! The tick rules (spec/42_frame_decoder.md R160 to R167) by the answer of their wait, and when the line is read
(spec/41_gpio_timing.md R142, R148). -/

namespace Sys2Proof.Machine

/-! ### The rules -/

theorem failEntry_eq (code : ErrCode) (bit : BitVec 6) (s : State) : failEntry code bit s =
    { s with state := .fail, errCode := code, errBit := bit, tcnt := 0, padOeR := false, doneF := true } := by
  simp [failEntry, setDone, drive]

section
variable {timeout : Nat} {level padIn : Bool} {onSeen : Nat → State → State} {onTimeout : State → State} {s : State}

theorem waitTick_of_seen {d : Nat} (h : await s.par.tickUs timeout level padIn s.tcnt = .seen d) :
    waitTick timeout level padIn onSeen onTimeout s = onSeen d s := by
  simp only [waitTick, h]

theorem waitTick_of_timeout (h : await s.par.tickUs timeout level padIn s.tcnt = .timeout) :
    waitTick timeout level padIn onSeen onTimeout s = onTimeout s := by
  simp only [waitTick, h]

theorem waitTick_of_pending {t : Nat} (h : await s.par.tickUs timeout level padIn s.tcnt = .pending t) :
    waitTick timeout level padIn onSeen onTimeout s = { s with tcnt := t } := by
  simp only [waitTick, h]

end

section
variable {padIn : Bool} {s : State}

theorem tick_of_reset (hs : s.state = .reset) : tick padIn s = tickReset s := by simp only [tick, hs]
theorem tick_of_ack1 (hs : s.state = .ack1) : tick padIn s = tickAck1 padIn s := by simp only [tick, hs]
theorem tick_of_ack2 (hs : s.state = .ack2) : tick padIn s = tickAck2 padIn s := by simp only [tick, hs]
theorem tick_of_ack3 (hs : s.state = .ack3) : tick padIn s = tickAck3 padIn s := by simp only [tick, hs]
theorem tick_of_bitLow (hs : s.state = .bitLow) : tick padIn s = tickBitLow padIn s := by simp only [tick, hs]
theorem tick_of_bitHigh (hs : s.state = .bitHigh) : tick padIn s = tickBitHigh padIn s := by simp only [tick, hs]

end

/-- Settles O40: each rule is its state's wait, which ends in the failure entry or in what the level leads to. -/
theorem tickRules : Obligations.TickRules := by
  intro s padIn failed
  have hfailed : ∀ code bit, failEntry code bit s = failed code bit := fun code bit => failEntry_eq code bit s
  refine ⟨tick_of_reset, fun hs => (tick_of_ack1 hs).trans ?ack1, fun hs => (tick_of_ack2 hs).trans ?ack2,
    fun hs => (tick_of_ack3 hs).trans ?ack3, fun hs => (tick_of_bitLow hs).trans ?bitLow,
    fun hs ha => (tick_of_bitHigh hs).trans ((waitTick_of_timeout ha).trans (hfailed _ _)),
    fun t hs ha => (tick_of_bitHigh hs).trans (waitTick_of_pending ha)⟩
  case ack1 | ack2 | ack3 | bitLow =>
    split
    · exact waitTick_of_seen ‹_›
    · exact (waitTick_of_timeout ‹_›).trans (hfailed _ _)
    · exact waitTick_of_pending ‹_›

/-! ### The line -/

/-- Off its sample points a wait does not read the line (R145, R148). -/
theorem await_of_not_sample {p timeout count : Nat} (h : isSample p timeout (count + 1) = false) (level padIn padIn' : Bool) :
    await p timeout level padIn count = await p timeout level padIn' count := by
  simp only [await, h, Bool.false_and]

theorem waitTick_of_not_sample {timeout : Nat} {s : State} (h : isSample s.par.tickUs timeout (s.tcnt + 1) = false)
    (level padIn padIn' : Bool) (onSeen : Nat → State → State) (onTimeout : State → State) :
    waitTick timeout level padIn onSeen onTimeout s = waitTick timeout level padIn' onSeen onTimeout s := by
  simp only [waitTick, await_of_not_sample h level padIn padIn']

/-- A tick that is no sample point of a waiting state does not read the line (R142). -/
theorem tick_of_not_sample {s : State}
    (h : ∀ timeout, waitTimeout s = some timeout → isSample s.par.tickUs timeout (s.tcnt + 1) = false)
    (padIn padIn' : Bool) : tick padIn s = tick padIn' s := by
  cases hs : s.state <;> simp only [tick, hs]
  case ack1 | ack2 | ack3 | bitLow | bitHigh =>
    exact waitTick_of_not_sample (h _ (by simp only [waitTimeout, hs])) _ _ _ _ _

theorem readsLine_eq_false_iff (s : State) : readsLine s = false ↔ ((edgeInput s).usTick = true →
    ∀ timeout, waitTimeout s = some timeout → isSample s.par.tickUs timeout (s.tcnt + 1) = false) := by
  cases ht : (edgeInput s).usTick <;> cases hw : waitTimeout s <;> simp [readsLine, ht, hw]

/-! ### Other inputs in the coming edge -/

/-- The state with other listed inputs. -/
def withInputs (ins : List Config.EdgeIn) (s : State) : State := { s with inputs := ins }

/-- `f` on the next state, where there is one. -/
def mapNext (f : State → State) : Host.Outcome State Fault Refusal → Host.Outcome State Fault Refusal
  | .next s => .next (f s)
  | .fault r => .fault r
  | .refused r => .refused r

section
variable {s : State} {ins : List Config.EdgeIn}
  (hrej : (edgeInput (withInputs ins s)).padCfgReject = (edgeInput s).padCfgReject)
include hrej

/-- Of the edge's inputs a CTRL write reads the platform's answer alone (R111). -/
theorem ctrlWrite_withInputs (cmd : CtrlCommand) (var : BitVec 2) (pu ie : Bool) :
    ctrlWrite cmd var pu ie (withInputs ins s) = mapNext (withInputs ins) (ctrlWrite cmd var pu ie s) := by
  have hb' : (withInputs ins s).busy = s.busy := rfl
  have hi' : (withInputs ins s).initDone = s.initDone := rfl
  cases hb : s.busy with
  | true =>
    simp only [ctrlWrite, hb', hb, if_true]
    rfl
  | false =>
    cases cmd with
    | nop | reserved =>
      simp only [ctrlWrite, hb', hb]
      rfl
    | init =>
      simp only [ctrlWrite, hb', hb, hrej]
      cases (edgeInput s).padCfgReject <;> rfl
    | read v =>
      simp only [ctrlWrite, hb', hb, hi']
      cases hi : s.initDone <;> rfl

/-- Of the edge's inputs a transaction reads the platform's answer alone. -/
theorem exec_withInputs (i : Instr) : exec i (withInputs ins s) = mapNext (withInputs ins) (exec i s) := by
  cases i
  case ctrlNop var pu ie => exact ctrlWrite_withInputs hrej .nop var pu ie
  case ctrlInit var pu ie => exact ctrlWrite_withInputs hrej .init var pu ie
  case ctrlReadDht11 pu ie => exact ctrlWrite_withInputs hrej (.read .dht11) _ pu ie
  case ctrlReadDht22 pu ie => exact ctrlWrite_withInputs hrej (.read .dht22) _ pu ie
  case ctrlReadSi7021 pu ie => exact ctrlWrite_withInputs hrej (.read .si7021) _ pu ie
  case ctrlReadRsvd => exact ctrlWrite_withInputs hrej .reserved 0b11#2 false false
  case ctrlCmdRsvd => exact ctrlWrite_withInputs hrej .reserved 0b00#2 false false
  all_goals rfl

/-- An edge with other inputs has the outcome it had, when reset, transaction, the platform's answer and the edges after it
are the same and the tick part makes no difference. -/
theorem step_withInputs (hrst : (edgeInput (withInputs ins s)).rst = (edgeInput s).rst)
    (hbus : busTransaction (edgeInput (withInputs ins s)) = busTransaction (edgeInput s))
    (hafter : ins.tail = s.inputs.tail)
    (htail : ∀ h, HostPart s h → edgeTail (withInputs ins s) (withInputs ins h) = edgeTail s h) :
    step (withInputs ins s) = step s := by
  by_cases hl : s.par.Legal
  case neg => rw [step_of_not_legal hl, step_of_not_legal (s := withInputs ins s) hl]
  have hl' : (withInputs ins s).par.Legal := hl
  cases hr : (edgeInput s).rst with
  | true =>
    rw [step_of_rst hl hr, step_of_rst hl' (hrst.trans hr)]
    exact congrArg (fun es => Host.Outcome.next { resetEdge s with inputs := es }) hafter
  | false =>
    have hnext : ∀ h, HostPart s h → HostPart (withInputs ins s) (withInputs ins h) →
        step (withInputs ins s) = step s := fun h hh hh' => by
      rw [step_of_hostPart hl hr hh, step_of_hostPart hl' (hrst.trans hr) hh', htail h hh]
    cases hw : busTransaction (edgeInput s) with
    | none => exact hnext _ (.inl ⟨hw, rfl⟩) (.inl ⟨hbus.trans hw, rfl⟩)
    | some w =>
      have hexec := exec_withInputs hrej (decode w)
      cases he : exec (decode w) s with
      | next h =>
        rw [he] at hexec
        exact hnext h (.inr ⟨w, hw, he⟩) (.inr ⟨w, hbus.trans hw, hexec⟩)
      | fault f =>
        rw [he] at hexec
        rw [step_of_exec_fault hl hr hw he, step_of_exec_fault hl' (hrst.trans hr) (hbus.trans hw) hexec]
      | refused r => exact absurd he (exec_not_refused _ _ r)

end

/-- The tick rules neither read nor change the listed inputs (R160). -/
theorem tick_withInputs (padIn : Bool) {s : State} (hb : s.busy = true) (ins : List Config.EdgeIn) :
    tick padIn (withInputs ins s) = withInputs ins (tick padIn s) := by
  have hb' : (withInputs ins s).busy = true := hb
  have hblank : blankHost (tick padIn (withInputs ins s)) = blankHost (withInputs ins (tick padIn s)) :=
    (hostBlind_tick padIn).congr rfl
  have hdone : (tick padIn (withInputs ins s)).doneF = (tick padIn s).doneF := by
    have hbusy : (tick padIn (withInputs ins s)).busy = (tick padIn s).busy := busy_congr (congrArg State.state hblank :)
    rw [tick_doneF padIn hb', tick_doneF padIn hb, hbusy]
    rfl
  obtain ⟨-, -, hed, -, -, -, -, hovr, hcmd, hvar, hpu, hie, hrd, hreq, hcpu, -⟩ := tick_frame padIn hb
  obtain ⟨-, hin', hed', -, -, -, -, hovr', hcmd', hvar', hpu', hie', hrd', hreq', hcpu', -⟩ := tick_frame padIn hb'
  have hsame := sameButFlags_of_blankHost hblank (hvar'.trans hvar.symm) (hpu'.trans hpu.symm) (hie'.trans hie.symm) hin'
    (hed'.trans hed.symm)
  rw [SameButFlags, hdone, hovr'.trans hovr.symm, hcmd'.trans hcmd.symm, hrd'.trans hrd.symm, hreq'.trans hreq.symm,
    hcpu'.trans hcpu.symm] at hsame
  exact hsame

/-- The end of an edge with other inputs is the same, when it is a tick as before and the tick rule computes the same. -/
theorem edgeTail_withInputs {s h : State} {ins : List Config.EdgeIn} (hh : HostPart s h)
    (htick : (edgeInput (withInputs ins s)).usTick = (edgeInput s).usTick) (hafter : ins.tail = s.inputs.tail)
    (hline : (edgeInput s).usTick = true → SameButFlags s h →
      tick (edgeInput (withInputs ins s)).padIn h = tick (edgeInput s).padIn h) :
    edgeTail (withInputs ins s) (withInputs ins h) = edgeTail s h := by
  have hadvance : ∀ u : State, u.inputs = s.inputs → advance (withInputs ins u) = advance u := fun u hu => by
    simp only [advance, withInputs, hafter, hu]
  obtain ⟨-, hin, -⟩ := hostPart_own_fields hh
  have hb' : (withInputs ins s).busy = s.busy := rfl
  cases hc : (edgeInput s).usTick && s.busy with
  | false =>
    simp only [edgeTail, htick, hb', hc]
    exact hadvance h hin
  | true =>
    obtain ⟨ht, hb⟩ := (Bool.and_eq_true _ _).mp hc
    have hf := hostPart_busy_frame hb hh
    have hbh : h.busy = true := by rw [busy_congr (s := s) (by rw [hf]), hb]
    obtain ⟨-, hin', -⟩ := tick_frame (edgeInput s).padIn hbh
    simp only [edgeTail, htick, hb', hc, if_true, tick_withInputs _ hbh, hline ht hf]
    exact hadvance _ (hin'.trans hin)

/-- Settles O35: the line is no part of the host part, and off the sample points none of the tick part. -/
theorem lineReadOnlyAtSamplePoints : Obligations.LineReadOnlyAtSamplePoints := by
  intro s e es padIn hin hreads
  have hafter : es = s.inputs.tail := by rw [hin]; rfl
  have hedge : edgeInput (withInputs ({ e with padIn := padIn } :: es) s) = { edgeInput s with padIn := padIn } := by
    simp only [edgeInput, withInputs, hin]
  refine step_withInputs (by rw [hedge]) (by rw [hedge]) (by rw [hedge]; rfl) hafter fun h hh =>
    edgeTail_withInputs hh (by rw [hedge]) hafter fun ht hf => tick_of_not_sample ?_ _ _
  rw [hf]
  exact (readsLine_eq_false_iff s).mp hreads ht

end Sys2Proof.Machine
end

section
/-! The frame decoder edge by edge (spec/42_frame_decoder.md R160 to R176): what disturbs a read in flight, when BUSY rises
and falls, how FAIL is entered, and what a resting state ignores. -/

namespace Sys2Proof.Machine

/-- Settles O42. -/
theorem comparatorIsStrict : Obligations.ComparatorIsStrict :=
  fun low _ => ⟨decide_eq_true_iff, decide_eq_false low.lt_irrefl⟩

/-- Settles O27: a busy host part always answers, and writes the flags and the outputs only. -/
theorem noTransactionDisturbsAReadInFlight : Obligations.NoTransactionDisturbsAReadInFlight := by
  intro i s hb
  obtain ⟨t, ht⟩ := exec_busy_completes i hb
  exact ⟨t, ht, exec_busy_sameButFlags hb ht⟩

/-! ### The bit a high phase decodes -/

theorem ofBool_compareWidths (low high : Nat) :
    BitVec.ofBool (compareWidths low high) = if low < high then 1#1 else 0#1 := by
  by_cases h : low < high <;> simp [compareWidths, h]

/-- Settles O41: the wait's end is `bitDecoded`, which completes at bit 39. -/
theorem highPhaseDecodesItsBit : Obligations.HighPhaseDecodesItsBit := by
  intro s padIn d hs ha f
  have htick : tick padIn s = bitDecoded d s := (tick_of_bitHigh hs).trans (waitTick_of_seen ha)
  have hframe : shiftIn s.frame (compareWidths s.lowDur d) = f := by rw [shiftIn, ofBool_compareWidths]
  rw [htick]
  rcases bitDecoded_cases d s with ⟨hb, h⟩ | ⟨hb, h⟩ <;> rw [h, hframe]
  · exact ⟨fun _ => rfl, fun h39 => absurd h39 hb⟩
  · exact ⟨fun hn => absurd hb hn, fun _ => rfl⟩

/-! ### BUSY and FAIL -/

/-- A tick that ends a read ends in DONE or FAIL. -/
theorem tick_ended (padIn : Bool) {s : State} (hb : s.busy = true) (ht : (tick padIn s).busy = false) :
    (tick padIn s).state = .done ∨ (tick padIn s).state = .fail := by
  rcases tick_outcome padIn hb with h | ⟨_, _, _, h, -⟩ | ⟨-, -, _, _, _, _, _, _, _, h⟩
  · rw [h.busy] at ht
    cases ht
  · exact .inr (by rw [h]; rfl)
  · exact .inl (by rw [h])

/-- Settles O32: BUSY is part of the position, so it changes only in the edges that move that. -/
theorem criticalSectionFollowsTheRead : Obligations.CriticalSectionFollowsTheRead := by
  intro s t h
  have hmove : t.busy ≠ s.busy → ¬ SamePosition s t := fun hne ⟨hst, _⟩ => hne (busy_congr hst)
  refine ⟨Iff.rfl, fun hb ht => ?_, fun hb ht => ?_⟩
  · rcases sequencerMovesOnlyAsSaid s t h (hmove (by simp [hb, ht])) with
      ⟨-, hidle⟩ | ⟨-, hb', -⟩ | ⟨hr, -, -, hread, hst⟩
    · simp [State.busy, SeqState.isBusy, hidle] at ht
    · simp [hb] at hb'
    · exact ⟨hr, hst, hread⟩
  · rcases sequencerMovesOnlyAsSaid s t h (hmove (by simp [hb, ht])) with ⟨hr, -⟩ | ⟨hr, -, htick⟩ | ⟨-, hb', -⟩
    · exact .inl hr
    · obtain ⟨u, -, -, hub, rfl⟩ := step_busy h hr hb
      rw [htick, if_pos rfl] at ht ⊢
      exact .inr ⟨rfl, tick_ended _ hub ht⟩
    · simp [hb] at hb'

/-- Why a read in flight in `s` fails, with the code and the bit index it leaves (R171, R201, R202). -/
abbrev FailReason (s : State) (code : ErrCode) (bit : BitVec 6) : Prop :=
  (s.state = .ack1 ∧ code = .initAckMissing ∧ bit = 0#6) ∨
  (s.state = .ack2 ∧ code = .initAckIncomplete ∧ bit = 0#6) ∨
  (s.state = .ack3 ∧ code = .initAckTimeout ∧ bit = 0#6) ∨
  ((s.state = .bitLow ∨ s.state = .bitHigh) ∧ code = .bitTimeout ∧ bit = s.bitidx) ∨
  (s.state = .bitHigh ∧ s.bitidx = 39#6 ∧ code = .checksumMismatch ∧ bit = 0#6)

/-- A tick into FAIL is the failure entry, with the reason of its state; the frame may hold one more bit. -/
theorem tick_fail (padIn : Bool) {s : State} (hb : s.busy = true) (ht : (tick padIn s).state = .fail) :
    ∃ f code bit, tick padIn s = failEntry code bit { s with frame := f } ∧ FailReason s code bit := by
  rcases tick_cases padIn hb with ⟨h, -⟩ | ⟨-, h, -⟩ | ⟨-, h, -⟩ | ⟨-, h, -⟩ | ⟨-, h, -⟩ | ⟨-, h, -⟩ | ⟨hs, h, -⟩ |
    ⟨code, bit, h, hreason⟩
  case inl =>
    rw [h] at ht
    exact absurd ht (not_ended_of_busy hb).2
  case inr.inr.inr.inr.inr.inr.inl =>
    rcases bitDecoded_cases (s.tcnt + 1) s with ⟨-, hd⟩ | ⟨hbit, hd⟩
    · rw [h, hd] at ht
      cases ht
    · rcases complete_cases (shiftIn s.frame (compareWidths s.lowDur (s.tcnt + 1))) s with ⟨-, hc⟩ | ⟨-, hc⟩
      · rw [h, hd, hc] at ht
        cases ht
      · exact ⟨_, _, _, h.trans (hd.trans hc), .inr (.inr (.inr (.inr ⟨hs, hbit, rfl, rfl⟩)))⟩
  case inr.inr.inr.inr.inr.inr.inr =>
    refine ⟨s.frame, code, bit, h, ?_⟩
    rcases hreason with h1 | h2 | h3 | h4
    · exact .inl h1
    · exact .inr (.inl h2)
    · exact .inr (.inr (.inl h3))
    · exact .inr (.inr (.inr (.inl h4)))
  all_goals
    rw [h] at ht
    cases ht

/-- Settles O36: FAIL is a new position, so the edge ticked while busy, and its tick was the failure entry. -/
theorem failureEntryRecordsItsReason : Obligations.FailureEntryRecordsItsReason := by
  intro s t h hr hs ht
  have hmove : ¬ SamePosition s t := fun ⟨hst, _⟩ => hs (hst.symm.trans ht)
  obtain ⟨hr', -⟩ | ⟨-, hb, htick⟩ | ⟨-, -, -, -, hreset⟩ := sequencerMovesOnlyAsSaid s t h hmove
  · simp [hr] at hr'
  · obtain ⟨u, -, hf, hub, rfl⟩ := step_busy h hr hb
    rw [htick, if_pos rfl] at ht ⊢
    obtain ⟨f, code, bit, hu, hreason⟩ := tick_fail _ hub ht
    rw [hu]
    rw [hf] at hreason
    refine ⟨hb, rfl, rfl, failEntry_doneF _ _ _, rfl, ?_, hreason⟩
    rw [hf]
    exact ⟨rfl, rfl, rfl, rfl, rfl, rfl, rfl⟩
  · cases ht.symm.trans hreset

/-! ### Resting states -/

/-- Settles O34: in a resting state an edge has no tick part, and the host part reads neither pin. -/
theorem restingStatesIgnoreTicksAndTheLine : Obligations.RestingStatesIgnoreTicksAndTheLine := by
  intro s e es usTick padIn hb hin
  have hafter : es = s.inputs.tail := by rw [hin]; rfl
  have hedge : edgeInput (withInputs ({ e with usTick := usTick, padIn := padIn } :: es) s) =
      { edgeInput s with usTick := usTick, padIn := padIn } := by
    simp only [edgeInput, withInputs, hin]
  refine step_withInputs (by rw [hedge]) (by rw [hedge]) (by rw [hedge]; rfl) hafter fun h hh => ?_
  obtain ⟨-, hhin, -⟩ := hostPart_own_fields hh
  have hb' : (withInputs ({ e with usTick := usTick, padIn := padIn } :: es) s).busy = false := hb
  simp only [edgeTail, hb, hb', Bool.and_false, Bool.false_eq_true, if_false]
  simp only [advance, withInputs, List.tail_cons, hafter, hhin]

end Sys2Proof.Machine
end

section
/-! Runs over listed edges (spec/30_encoding.md R100, spec/42_frame_decoder.md R162, R174): the reset pulse's length, and how
many ticks a read takes at most and at least. -/

namespace Sys2Proof.Machine

/-! ### Runs and listed edges -/

section
variable {M : Host.Core} {n : Nat} {s t : M.State}

theorem run_succ_of_step (h : M.step s = .next t) : M.run (n + 1) s = M.run n t := by
  rw [Host.Core.run, h]

/-- A run of one edge more that answers a state stepped to the run that is left. -/
theorem run_succ_next (h : M.run (n + 1) s = .next t) : ∃ u, M.step s = .next u ∧ M.run n u = .next t := by
  rw [Host.Core.run] at h
  cases hs : M.step s with
  | next u => exact ⟨u, rfl, by rwa [hs] at h⟩
  | fault r | refused r =>
    rw [hs] at h
    cases h

theorem run_add {m : Nat} (h : M.run n s = .next t) : M.run (n + m) s = M.run m t := by
  induction n generalizing s with
  | zero =>
    cases h
    rw [Nat.zero_add]
  | succ n ih =>
    obtain ⟨u, hu, hrun⟩ := run_succ_next h
    rw [Nat.add_right_comm, run_succ_of_step hu, ih hrun]

end

theorem runEdges_succ_of_step {n : Nat} {s t : State} (h : step s = .next t) : runEdges (n + 1) s = runEdges n t :=
  run_succ_of_step (M := Sys2Proof.core) h

theorem countTicks_cons (e : Config.EdgeIn) (es : List Config.EdgeIn) :
    countTicks (e :: es) = countTicks es + if e.usTick then 1 else 0 := List.countP_cons

theorem edgeInput_of_inputs {s : State} {e : Config.EdgeIn} {es : List Config.EdgeIn} (h : s.inputs = e :: es) :
    edgeInput s = e := by
  simp only [edgeInput, h]

/-- A listed edge without reset steps a busy state, and behind the host's side it is a tick or nothing. -/
theorem step_busy_listed {s : State} {e : Config.EdgeIn} {es : List Config.EdgeIn} (hl : s.par.Legal) (hb : s.busy = true)
    (hin : s.inputs = e :: es) (hr : e.rst = false) :
    ∃ t, step s = .next t ∧ t.inputs = es ∧ blankHost t = blankHost (if e.usTick then tick e.padIn s else s) := by
  have he := edgeInput_of_inputs hin
  obtain ⟨h, hh⟩ := hostPart_busy hb
  have hstep := step_of_hostPart hl (by rw [he, hr]) hh
  obtain ⟨-, hins, -⟩ := stepKeepsTheParameters s _ hstep
  refine ⟨_, hstep, by rw [hins, hin, List.tail_cons], ?_⟩
  have hblank := blankHost_of_sameButFlags (hostPart_busy_frame hb hh)
  rw [edgeTail, hb, he, Bool.and_true, blankHost_advance]
  cases e.usTick
  · exact hblank
  · exact (hostBlind_tick _).congr hblank

/-! ### The reset pulse -/

theorem tick_of_reset_before_end (padIn : Bool) {s : State} (hs : s.state = .reset)
    (hn : s.tcnt + 1 < resetLen s.par s.actVariant) : tick padIn s = { s with tcnt := s.tcnt + 1 } := by
  rw [tick_of_reset hs, tickReset, if_neg (Nat.not_le.mpr hn)]

theorem tick_of_reset_at_end (padIn : Bool) {s : State} (hs : s.state = .reset)
    (hn : resetLen s.par s.actVariant ≤ s.tcnt + 1) :
    tick padIn s = { drive true s with state := .ack1, tcnt := 0 } := by
  rw [tick_of_reset hs, tickReset, if_pos hn]

/-- Edges with fewer ticks than the pulse has left only count them (R161). -/
theorem runEdges_in_reset {es rest : List Config.EdgeIn} {s : State} (hl : s.par.Legal) (hs : s.state = .reset)
    (hin : s.inputs = es ++ rest) (hr : ∀ e ∈ es, e.rst = false)
    (hn : s.tcnt + countTicks es < resetLen s.par s.actVariant) :
    ∃ t, runEdges es.length s = .next t ∧ t.inputs = rest ∧
      blankHost t = blankHost { s with tcnt := s.tcnt + countTicks es } := by
  induction es generalizing s with
  | nil => exact ⟨s, rfl, hin, rfl⟩
  | cons e es ih =>
    rw [countTicks_cons] at hn ⊢
    obtain ⟨u, hstep, hins, hu⟩ := step_busy_listed hl ((busy_iff s).mpr (.inl hs)) hin (hr e List.mem_cons_self)
    have hu' : blankHost u = blankHost { s with tcnt := s.tcnt + if e.usTick then 1 else 0 } := by
      rw [hu]
      cases he : e.usTick
      · rfl
      · rw [if_pos rfl, tick_of_reset_before_end _ hs (by simp only [he, if_true] at hn; omega)]
        rfl
    have hpar : u.par = s.par := (congrArg State.par hu' :)
    have hvar : u.actVariant = s.actVariant := (congrArg State.actVariant hu' :)
    have htcnt : u.tcnt = s.tcnt + if e.usTick then 1 else 0 := (congrArg State.tcnt hu' :)
    obtain ⟨t, hrun, htin, ht⟩ := ih (s := u) (hpar ▸ hl) ((congrArg State.state hu' :).trans hs) hins
      (fun e' he' => hr e' (List.mem_cons_of_mem _ he')) (by rw [hpar, hvar, htcnt]; omega)
    refine ⟨t, by rw [List.length_cons, runEdges_succ_of_step hstep, hrun], htin, ht.trans ?_⟩
    change { blankHost u with tcnt := u.tcnt + countTicks es } = _
    rw [hu', htcnt, Nat.add_assoc, Nat.add_comm (countTicks es)]
    rfl

/-- Settles O43: the edges before the last tick only count, and the last tick finds the pulse at its length. -/
theorem resetPulseLastsItsLength : Obligations.ResetPulseLastsItsLength := by
  intro s hl hs h0 hr
  constructor
  · intro hn
    obtain ⟨t, hrun, -, ht⟩ := runEdges_in_reset hl hs (List.append_nil _).symm hr (by omega)
    have htcnt : t.tcnt = s.tcnt + countTicks s.inputs := (congrArg State.tcnt ht :)
    exact ⟨t, hrun, (congrArg State.state ht :).trans hs, (congrArg State.padOeR ht :), by omega⟩
  · intro es e hin he hn
    rw [hin] at hr
    obtain ⟨u, hrun, hins, hu⟩ := runEdges_in_reset hl hs hin (fun e' he' => hr e' (List.mem_append_left _ he')) (by omega)
    have hpar : u.par = s.par := (congrArg State.par hu :)
    have hvar : u.actVariant = s.actVariant := (congrArg State.actVariant hu :)
    have htcnt : u.tcnt = s.tcnt + countTicks es := (congrArg State.tcnt hu :)
    have hus : u.state = .reset := (congrArg State.state hu :).trans hs
    obtain ⟨t, hstep, -, ht⟩ := step_busy_listed (hpar ▸ hl) ((busy_iff u).mpr (.inl hus)) hins
      (hr e (List.mem_append_right _ List.mem_cons_self))
    rw [he, if_pos rfl, tick_of_reset_at_end _ hus (by rw [hpar, hvar, htcnt]; omega)] at ht
    refine ⟨t, ?_, (congrArg State.state ht :), (congrArg State.padOeR ht :), (congrArg State.tcnt ht :)⟩
    rw [hin, List.length_append]
    exact (run_add (M := Sys2Proof.core) hrun).trans (run_succ_of_step (M := Sys2Proof.core) (n := 0) hstep)

/-! ### At most -/

/-- One bit less is left after a bit that is not the last. -/
theorem bits_left_succ {b : BitVec 6} (hne : b ≠ 39#6) (hle : b.toNat ≤ 39) :
    39 - b.toNat = 39 - (b + 1#6).toNat + 1 := by
  have hb : b.toNat ≠ 39 := fun h => hne (BitVec.eq_of_toNat_eq h)
  rw [BitVec.toNat_add, BitVec.toNat_ofNat]
  omega

/-- Every tick of a read that goes on leaves at least one tick less (R174). -/
theorem ticksLeft_tick (padIn : Bool) {s : State} (hb : s.busy = true) (hp : PhaseFits s)
    (hgoes : (tick padIn s).busy = true) : ticksLeft (tick padIn s) + 1 ≤ ticksLeft s := by
  obtain ⟨htcnt, hbit⟩ := hp hb
  rcases tick_cases padIn hb with ⟨h, -⟩ | ⟨hs, h, -⟩ | ⟨hs, h, -⟩ | ⟨hs, h, -⟩ | ⟨hs, h, -⟩ | ⟨hs, h, -⟩ | ⟨hs, h, -⟩ |
    ⟨code, bit, h, -⟩
  case inr.inr.inr.inr.inr.inr.inr =>
    rw [h] at hgoes
    cases hgoes
  case inr.inr.inr.inr.inr.inr.inl =>
    rcases bitDecoded_cases (s.tcnt + 1) s with ⟨hne, hd⟩ | ⟨-, hd⟩
    · rw [h, hd]
      simp only [ticksLeft, phaseLen, hs, bits_left_succ hne hbit, Nat.succ_mul, bitLen] at htcnt ⊢
      omega
    · rcases complete_cases (shiftIn s.frame (compareWidths s.lowDur (s.tcnt + 1))) s with ⟨-, hc⟩ | ⟨-, hc⟩ <;>
        rw [h, hd, hc] at hgoes <;> cases hgoes
  case inl =>
    rw [h]
    rcases (busy_iff s).1 hb with hs | hs | hs | hs | hs | hs <;>
      simp only [ticksLeft, phaseLen, hs] at htcnt ⊢ <;> omega
  all_goals
    rw [h]
    simp only [ticksLeft, phaseLen, bitLen, hs, drive_par, BitVec.toNat_ofNat, Nat.zero_mod] at htcnt ⊢
    omega

theorem ticksLeft_pos {s : State} (hb : s.busy = true) (hp : PhaseFits s) : 0 < ticksLeft s := by
  obtain ⟨htcnt, -⟩ := hp hb
  rcases (busy_iff s).1 hb with hs | hs | hs | hs | hs | hs <;> simp only [ticksLeft, hs] <;> omega

theorem ticksLeft_of_blankHost {s t : State} (h : blankHost t = blankHost s) : ticksLeft t = ticksLeft s :=
  (congrArg ticksLeft h :)

/-- After a listed edge the read has ended, or the ticks left still do not outnumber the ticks listed. -/
theorem ticksLeft_listed {s u : State} {e : Config.EdgeIn} {es : List Config.EdgeIn} (hb : s.busy = true) (hp : PhaseFits s)
    (hn : ticksLeft s ≤ countTicks (e :: es)) (hu : blankHost u = blankHost (if e.usTick then tick e.padIn s else s)) :
    (u.busy = true ∧ ticksLeft u ≤ countTicks es) ∨ u.state = .done ∨ u.state = .fail := by
  have hstate : u.state = (if e.usTick then tick e.padIn s else s).state := (congrArg State.state hu :)
  rw [countTicks_cons] at hn
  rw [ticksLeft_of_blankHost hu, busy_congr hstate, hstate]
  cases he : e.usTick <;> simp only [he] at hn ⊢
  · exact .inl ⟨hb, hn⟩
  · cases hgoes : (tick e.padIn s).busy with
    | true => exact .inl ⟨hgoes, Nat.le_of_succ_le_succ ((ticksLeft_tick e.padIn hb hp hgoes).trans hn)⟩
    | false => exact .inr (tick_ended e.padIn hb hgoes)

/-- Settles O54, by induction on the listed edges: each tick of the read takes one from the ticks left. -/
theorem everyReadEnds : Obligations.EveryReadEnds := by
  intro s hl hb hp hr hn
  induction hin : s.inputs generalizing s with
  | nil =>
    have hpos := ticksLeft_pos hb hp
    rw [hin] at hn
    exact absurd (hpos.trans_le hn) (lt_irrefl 0)
  | cons e es ih =>
    rw [hin] at hr hn
    obtain ⟨u, hstep, hins, hu⟩ := step_busy_listed hl hb hin (hr e List.mem_cons_self)
    rcases ticksLeft_listed hb hp hn hu with ⟨hub, hleft⟩ | hend
    · have hpar : u.par = s.par := (stepKeepsTheParameters s u hstep).1
      obtain ⟨n, t, hle, hrun, ht⟩ := ih u (hpar ▸ hl) hub ((countersStayInRange s u hstep).2 hp)
        (hins ▸ fun e' he' => hr e' (List.mem_cons_of_mem _ he')) (hins ▸ hleft) hins
      exact ⟨n + 1, t, Nat.succ_le_succ hle, (runEdges_succ_of_step hstep).trans hrun, ht⟩
    · exact ⟨1, u, Nat.succ_le_succ (Nat.zero_le _), runEdges_succ_of_step hstep, hend⟩

/-- A wait with a sample point lasts at most LAST(T) ticks (R149). -/
theorem waitLen_of_samples {p timeout : Nat} (hp : 1 ≤ p) (h : p ≤ timeout) :
    waitLen p timeout = lastSample p timeout :=
  max_eq_right (hp.trans (le_lastSample_of_mod_eq_zero (Nat.mod_self p) h))

/-- The ticks left of a read just accepted are R174's bound. -/
theorem ticksLeft_of_accepted {s : State} (hl : s.par.Legal) (hw : WaitsSample s.par) (hs : s.state = .reset)
    (h0 : s.tcnt = 0) : ticksLeft s = readBound s.par s.actVariant := by
  obtain ⟨hp, -⟩ := hl
  obtain ⟨h1, h2, h3, hlow, hhigh⟩ := hw
  simp only [ticksLeft, phaseLen, hs, h0, Nat.sub_zero, bitLen, readBound, waitLen_of_samples hp h1, waitLen_of_samples hp h2,
    waitLen_of_samples hp h3, waitLen_of_samples hp hlow, waitLen_of_samples hp hhigh]

/-- Settles O55: the bound is the ticks left at acceptance. -/
theorem readEndsWithinItsBound : Obligations.ReadEndsWithinItsBound := by
  refine ⟨fun s hl hw hs h0 hbit hr hn => ?_, rfl, rfl, rfl⟩
  exact everyReadEnds s hl ((busy_iff s).mpr (.inl hs)) (phaseFits_of_tcnt_zero hl h0 (by simp [hbit])) hr
    ((ticksLeft_of_accepted hl hw hs h0).trans_le hn)

/-! ### At least -/

/-- The fewest ticks before the read can be DONE: the rest of the pulse, and P for each of the three acknowledge waits and the
eighty waits of the bits (R174). A failed read, or none, has the waits of the next one before it. -/
def ticksToDone (s : State) : Nat :=
  let p := s.par.tickUs
  match s.state with
  | .reset => resetLen s.par s.actVariant - s.tcnt + 83 * p
  | .ack1 => p - s.tcnt + 82 * p
  | .ack2 => p - s.tcnt + 81 * p
  | .ack3 => p - s.tcnt + 80 * p
  | .bitLow => p - s.tcnt + p + (39 - s.bitidx.toNat) * (2 * p)
  | .bitHigh => p - s.tcnt + (39 - s.bitidx.toNat) * (2 * p)
  | .idle | .fail => 83 * p
  | .done => 0

/-- At most 39 bits are still to come after the current one. -/
theorem bits_left_mul_le (b : BitVec 6) (p : Nat) : (39 - b.toNat) * (2 * p) ≤ 78 * p := by
  calc (39 - b.toNat) * (2 * p) ≤ 39 * (2 * p) := Nat.mul_le_mul_right _ (Nat.sub_le _ _)
    _ = 78 * p := by omega

/-- Outside RESET no more is to come than the waits of one read. -/
theorem ticksToDone_le_of_not_reset {s : State} (hs : s.state ≠ .reset) : ticksToDone s ≤ 83 * s.par.tickUs := by
  have hbits := bits_left_mul_le s.bitidx s.par.tickUs
  cases h : s.state
  case reset => exact absurd h hs
  all_goals
    simp only [ticksToDone, h]
    omega

/-- A sample point comes no earlier than P ticks into its wait. -/
theorem le_of_sample {p t : Nat} (h : (t + 1) % p = 0) : p - t ≤ 1 := by
  have := Nat.le_of_dvd t.succ_pos (Nat.dvd_of_mod_eq_zero h)
  omega

/-- The next bit is one less to come. -/
theorem bits_left_mul_le_succ {b : BitVec 6} (hne : b ≠ 39#6) (p : Nat) :
    (39 - b.toNat) * (2 * p) ≤ (39 - (b + 1#6).toNat) * (2 * p) + 2 * p := by
  have hb : b.toNat ≠ 39 := fun h => hne (BitVec.eq_of_toNat_eq h)
  rw [← Nat.succ_mul, BitVec.toNat_add, BitVec.toNat_ofNat]
  exact Nat.mul_le_mul_right _ (by omega)

/-- A tick brings DONE at most one tick nearer. -/
theorem ticksToDone_tick (padIn : Bool) {s : State} (hb : s.busy = true) :
    ticksToDone s ≤ ticksToDone (tick padIn s) + 1 := by
  rcases tick_cases padIn hb with ⟨h, -⟩ | ⟨hs, h, hlen⟩ | ⟨hs, h, hmod⟩ | ⟨hs, h, hmod⟩ | ⟨hs, h, hmod⟩ |
    ⟨hs, h, hmod, -⟩ | ⟨hs, h, hmod, -⟩ | ⟨code, bit, h, hc⟩
  case inl =>
    rw [h]
    rcases (busy_iff s).1 hb with hs | hs | hs | hs | hs | hs <;> simp only [ticksToDone, hs] <;> omega
  case inr.inl =>
    rw [h]
    simp only [ticksToDone, hs, drive_par]
    omega
  case inr.inr.inr.inr.inr.inr.inl =>
    have hP := le_of_sample hmod
    rw [h]
    rcases bitDecoded_cases (s.tcnt + 1) s with ⟨hne, hd⟩ | ⟨h39, -⟩
    · have hbits := bits_left_mul_le_succ hne s.par.tickUs
      rw [hd]
      simp only [ticksToDone, hs]
      omega
    · refine le_trans ?_ (Nat.le_add_left 1 _)
      simpa only [ticksToDone, hs, h39, BitVec.toNat_ofNat, Nat.reducePow, Nat.reduceMod, Nat.sub_self, Nat.zero_mul,
        Nat.add_zero] using hP
  case inr.inr.inr.inr.inr.inr.inr =>
    have hs : s.state ≠ .reset := by
      rcases hc with ⟨hs, -⟩ | ⟨hs, -⟩ | ⟨hs, -⟩ | ⟨hs | hs, -⟩ <;> simp [hs]
    rw [h]
    exact (ticksToDone_le_of_not_reset hs).trans (Nat.le_succ _)
  all_goals
    have hP := le_of_sample hmod
    rw [h]
    simp only [ticksToDone, hs, BitVec.toNat_ofNat, Nat.zero_mod]
    omega

theorem ticksToDone_of_blankHost {s t : State} (h : blankHost t = blankHost s) : ticksToDone t = ticksToDone s :=
  (congrArg ticksToDone h :)

theorem ticksToDone_initAccept (pu reject : Bool) (s : State) : ticksToDone (initAccept pu reject s) = ticksToDone s := by
  simp only [ticksToDone, initAccept_state, initAccept_tcnt, initAccept_bitidx, initAccept_actVariant, initAccept_par]

/-- An edge without reset brings DONE at most one tick nearer, and only as a tick. -/
theorem ticksToDone_step {s t : State} (h : step s = .next t) (hr : (edgeInput s).rst = false) :
    ticksToDone s ≤ ticksToDone t + if (edgeInput s).usTick then 1 else 0 := by
  rcases step_blankHost h hr with he | ⟨-, -, pu, reject, he⟩ | ⟨hb, -, -, v, he⟩ | ⟨hb, htick, padIn, he⟩
  all_goals rw [ticksToDone_of_blankHost he]
  · exact Nat.le_add_right _ _
  · rw [ticksToDone_initAccept]
    exact Nat.le_add_right _ _
  · have hs : s.state ≠ .reset := fun hs => by simp [State.busy, SeqState.isBusy, hs] at hb
    have haccept : 83 * s.par.tickUs ≤ ticksToDone (readAccept v s) := Nat.le_add_left _ _
    exact (ticksToDone_le_of_not_reset hs).trans (haccept.trans (Nat.le_add_right _ _))
  · rw [if_pos htick]
    exact ticksToDone_tick padIn hb

/-- Over listed edges without reset, DONE comes nearer by the ticks among them at most. -/
theorem ticksToDone_runEdges {n : Nat} {s t : State} (hr : ∀ e ∈ s.inputs, e.rst = false) (hn : n ≤ s.inputs.length)
    (h : runEdges n s = .next t) : ticksToDone s ≤ ticksToDone t + countTicks (s.inputs.take n) := by
  induction n generalizing s with
  | zero =>
    cases h
    exact Nat.le_add_right _ _
  | succ n ih =>
    obtain ⟨u, hstep, hrun⟩ := run_succ_next (M := Sys2Proof.core) h
    obtain ⟨-, hins, -⟩ := stepKeepsTheParameters s u hstep
    cases hin : s.inputs with
    | nil => simp [hin] at hn
    | cons e es =>
      rw [hin, List.tail_cons] at hins
      rw [hin] at hr hn
      have he := edgeInput_of_inputs hin
      have hu := ih (hins ▸ fun e' he' => hr e' (List.mem_cons_of_mem _ he')) (hins ▸ Nat.le_of_succ_le_succ hn) hrun
      have hs := ticksToDone_step hstep (by rw [he, hr e List.mem_cons_self])
      rw [hins] at hu
      rw [he] at hs
      rw [List.take_succ_cons, countTicks_cons]
      omega

/-- Settles O56: from acceptance to DONE the ticks to DONE go from R174's bound to 0. -/
theorem successfulReadTakesAtLeast : Obligations.SuccessfulReadTakesAtLeast := by
  intro s t n _ hs h0 hr hn hrun ht
  have hticks := ticksToDone_runEdges hr hn hrun
  have hend : ticksToDone t = 0 := by simp only [ticksToDone, ht]
  have hstart : ticksToDone s = resetLen s.par s.actVariant + 83 * s.par.tickUs := by
    simp only [ticksToDone, hs, h0, Nat.sub_zero]
  omega

end Sys2Proof.Machine
end

section
/-! The value assembler (spec/43_value_assembler.md R181 to R186): the checksum, the two conversions and completion. -/

namespace Sys2Proof.Machine

theorem validate_iff (r : RawFrame) :
    validate r = true ↔ (r.b0.toNat + r.b1.toNat + r.b2.toNat + r.b3.toNat) % 256 = r.checksum.toNat :=
  beq_iff_eq

/-- Settles O45: byte addition is the sum modulo 256. -/
theorem checksumIsTheByteSum : Obligations.ChecksumIsTheByteSum := by
  refine ⟨fun r => ?_, by decide, by decide⟩
  simp only [validate_iff, ← BitVec.toNat_inj, BitVec.toNat_add, Nat.mod_add_mod, Nat.reducePow]

/-- `10 a + b` of two bytes has room to spare in 16 bits (R189). -/
theorem toNat_tenths (a b : Byte) :
    (BitVec.ofNat 16 (10 * a.toNat + b.toNat)).toNat = 10 * a.toNat + b.toNat ∧ 10 * a.toNat + b.toNat ≤ 2805 := by
  have ha := a.isLt
  have hb := b.isLt
  exact ⟨Nat.mod_eq_of_lt (by omega), by omega⟩

/-- Settles O46: both values are tenths of two bytes. -/
theorem dht11Conversion : Obligations.Dht11Conversion := by
  intro r
  obtain ⟨hhum, hhum_le⟩ := toNat_tenths r.b0 r.b1
  obtain ⟨hmag, hmag_le⟩ := toNat_tenths r.b2 r.b3
  exact ⟨hhum, hmag, rfl, hhum.trans_le hhum_le, hmag.trans_le hmag_le⟩

/-- Settles O50, from the two ways completion goes. -/
theorem completionWritesTheResults : Obligations.CompletionWritesTheResults := by
  intro f s r v
  rcases complete_cases f s with ⟨hv, h⟩ | ⟨hv, h⟩
  · exact ⟨fun _ => h, fun hn => absurd (hv.symm.trans hn) (by decide)⟩
  · exact ⟨fun hn => absurd (hv.symm.trans hn) (by decide), fun _ => h.trans (failEntry_eq _ _ _)⟩

@[simp] theorem rne32_zero (d : Nat) : rne32 0 d = 0#32 := by
  simp [rne32, divNearestEven]

theorem convert_of_ne_dht11 (r : RawFrame) {v : Variant} (h : v ≠ .dht11) : convert r v = convertDht22 r := by
  cases v with
  | dht11 => exact absurd rfl h
  | dht22 => rfl
  | si7021 => rfl

theorem toNat_byte_append (a b : Byte) : (a ++ b).toNat = 256 * a.toNat + b.toNat := by
  rw [BitVec.toNat_append, ← Nat.shiftLeft_add_eq_or_of_lt b.isLt, Nat.shiftLeft_eq, Nat.mul_comm]

theorem toNat_and_0x7F (b : Byte) : (b &&& 0x7F#8).toNat = b.toNat % 128 := by
  rw [BitVec.toNat_and]
  exact Nat.and_two_pow_sub_one_eq_mod b.toNat 7

theorem getLsbD_seven (b : Byte) : b.getLsbD 7 = true ↔ 128 ≤ b.toNat := by
  rw [← BitVec.msb_eq_getLsbD_last b, BitVec.msb_eq_decide, decide_eq_true_iff]

/-- The negative zero of R186. -/
theorem convertDht22_negative_zero {r : RawFrame} (h2 : r.b2 = 0x80#8) (h3 : r.b3 = 0x00#8) :
    (convertDht22 r).tempMag = 0#16 ∧ (convertDht22 r).tempNeg = true := by
  simp [convertDht22, h2, h3]

/-- Settles O47: the conversion joins two bytes, and the frame with a magnitude of 0 completes as the negative zero. -/
theorem dht22Conversion : Obligations.Dht22Conversion := by
  intro r v hv
  rw [convert_of_ne_dht11 r hv]
  have hmag : (convertDht22 r).tempMag.toNat = 256 * (r.b2.toNat % 128) + r.b3.toNat := by
    rw [← toNat_and_0x7F, ← toNat_byte_append]
    rfl
  refine ⟨toNat_byte_append r.b0 r.b1, hmag, getLsbD_seven r.b2, ?_, ?_⟩
  · have h3 := r.b3.isLt
    omega
  · rintro f s rfl rfl hvalid h2 h3
    obtain ⟨hzero, hneg⟩ := convertDht22_negative_zero h2 h3
    rw [(completionWritesTheResults f s).1 hvalid, convert_of_ne_dht11 _ hv, hzero, hneg]
    simp only [tempX10Value, tempF32Value, BitVec.toNat_zero, rne32_zero]
    decide

end Sys2Proof.Machine
end

section
/-! The binary32 results (spec/43_value_assembler.md R187, R188): the integer that `rne32` rounds to, the value its pattern
has, and the grid of the finite patterns. -/

namespace Sys2Proof.Machine

/-! ### The nearest integer -/

/-- The rounded quotient is half a unit away at most, and even where it is just that. -/
theorem divNearestEven_spec (n : Nat) {d : Nat} (hd : 0 < d) :
    2 * n ≤ 2 * (divNearestEven n d * d) + d ∧ 2 * (divNearestEven n d * d) ≤ 2 * n + d ∧
    (2 * n = 2 * (divNearestEven n d * d) + d ∨ 2 * (divNearestEven n d * d) = 2 * n + d → divNearestEven n d % 2 = 0) := by
  have hdiv : n / d * d + n % d = n := Nat.div_add_mod' n d
  have hmod : n % d < d := Nat.mod_lt n hd
  simp only [divNearestEven]
  split_ifs with hup
  · have hsucc : (n / d + 1) * d = n / d * d + d := Nat.add_one_mul ..
    omega
  · omega

theorem divNearestEven_bounds (n d : Nat) : n / d ≤ divNearestEven n d ∧ divNearestEven n d ≤ n / d + 1 := by
  simp only [divNearestEven]
  split_ifs <;> omega

theorem divNearestEven_mul (m : Nat) {d : Nat} (hd : 0 < d) : divNearestEven (m * d) d = m := by
  simp [divNearestEven, hd, hd.ne]

theorem divNearestEven_mono {a b d : Nat} (hd : 0 < d) (h : a ≤ b) : divNearestEven a d ≤ divNearestEven b d := by
  obtain rfl | hlt := h.eq_or_lt
  · exact le_rfl
  · by_contra hgt
    have hstep := Nat.mul_le_mul_right d (Nat.lt_of_not_le hgt)
    have ha := (divNearestEven_spec a hd).2.1
    have hb := (divNearestEven_spec b hd).1
    rw [Nat.succ_mul] at hstep
    omega

/-- No multiple of `d` is nearer to `n` than the rounded quotient's, and where another is as near that quotient is even. -/
theorem divNearestEven_nearest (n j : Nat) {d : Nat} (hd : 0 < d) :
    natDist (divNearestEven n d * d) n ≤ natDist (j * d) n ∧
    (natDist (j * d) n = natDist (divNearestEven n d * d) n → j ≠ divNearestEven n d → divNearestEven n d % 2 = 0) := by
  obtain ⟨hlow, hhigh, htie⟩ := divNearestEven_spec n hd
  unfold natDist
  rcases lt_trichotomy j (divNearestEven n d) with hj | rfl | hj
  · have hstep := Nat.mul_le_mul_right d hj
    rw [Nat.succ_mul] at hstep
    exact ⟨by omega, fun heq _ => htie (by omega)⟩
  · exact ⟨le_rfl, fun _ hne => absurd rfl hne⟩
  · have hstep := Nat.mul_le_mul_right d hj
    rw [Nat.succ_mul] at hstep
    exact ⟨by omega, fun heq _ => htie (by omega)⟩

/-! ### Shift and significand -/

/-- How many low bits of `n / d`, in units of 2^-149, a 24-bit significand drops. -/
def rneShift (n d : Nat) : Nat := Nat.log2 (n * 2 ^ 149 / d) - 23

/-- The significand that `n / d` is rounded to. -/
def rneSig (n d : Nat) : Nat := divNearestEven (n * 2 ^ 149) (d * 2 ^ rneShift n d)

theorem rne32_eq (n d : Nat) : rne32 n d = BitVec.ofNat 32 (min (rneShift n d * 2 ^ 23 + rneSig n d) 0x7F800000) := rfl

theorem toNat_rne32 (n d : Nat) : (rne32 n d).toNat = min (rneShift n d * 2 ^ 23 + rneSig n d) 0x7F800000 := by
  rw [rne32_eq, BitVec.toNat_ofNat]
  exact Nat.mod_eq_of_lt (by omega)

theorem rneSig_le (n d : Nat) : rneSig n d ≤ 2 ^ 24 := by
  have hlt : n * 2 ^ 149 / d < 2 ^ rneShift n d * 2 ^ 24 := by
    rw [← Nat.pow_add]
    exact Nat.lt_log2_self.trans_le (Nat.pow_le_pow_right Nat.two_pos (by unfold rneShift; omega))
  have hq : n * 2 ^ 149 / (d * 2 ^ rneShift n d) < 2 ^ 24 := by
    rw [← Nat.div_div_eq_div_mul]
    exact Nat.div_lt_of_lt_mul hlt
  exact (divNearestEven_bounds _ _).2.trans hq

/-- Where bits are dropped the quotient has 24 bits or more. -/
theorem le_quotient_of_shift {n d : Nat} (h : 0 < rneShift n d) : 2 ^ 23 * 2 ^ rneShift n d ≤ n * 2 ^ 149 / d := by
  have hlog : 23 + rneShift n d = Nat.log2 (n * 2 ^ 149 / d) := by
    unfold rneShift at h ⊢
    omega
  have hne : n * 2 ^ 149 / d ≠ 0 := fun h0 => by
    rw [h0, Nat.log2_zero] at hlog
    omega
  rw [← Nat.pow_add, hlog]
  exact Nat.log2_self_le hne

theorem le_rneSig_of_shift {n d : Nat} (h : 0 < rneShift n d) : 2 ^ 23 ≤ rneSig n d := by
  refine le_trans ?_ (divNearestEven_bounds _ _).1
  rw [← Nat.div_div_eq_div_mul, Nat.le_div_iff_mul_le (Nat.two_pow_pos _)]
  exact le_quotient_of_shift h

theorem rneShift_mono {a b : Nat} (d : Nat) (h : a ≤ b) : rneShift a d ≤ rneShift b d := by
  have hq : a * 2 ^ 149 / d ≤ b * 2 ^ 149 / d := Nat.div_le_div_right (Nat.mul_le_mul_right _ h)
  refine Nat.sub_le_sub_right ?_ 23
  simpa only [Nat.log2_eq_log_two] using Nat.log_mono_right hq

/-- A quotient below 2^24 drops no bit of its integer part. -/
theorem rneShift_le {n d : Nat} (h : n < 2 ^ 24 * d) : rneShift n d ≤ 149 := by
  have hq : n * 2 ^ 149 / d < 2 ^ 23 * 2 ^ 150 := Nat.div_lt_of_lt_mul (by omega)
  by_contra hgt
  have hle := le_quotient_of_shift (Nat.zero_lt_of_lt (Nat.lt_of_not_le hgt))
  have hpow : 2 ^ 150 ≤ 2 ^ rneShift n d := Nat.pow_le_pow_right Nat.two_pos (Nat.lt_of_not_le hgt)
  exact absurd (hle.trans_lt hq) (Nat.not_lt.mpr (Nat.mul_le_mul_left _ hpow))

/-- A larger quotient has no smaller pattern. -/
theorem toNat_rne32_mono {a b d : Nat} (hd : 0 < d) (h : a ≤ b) : (rne32 a d).toNat ≤ (rne32 b d).toNat := by
  rw [toNat_rne32, toNat_rne32]
  refine min_le_min_right _ ?_
  obtain heq | hlt := (rneShift_mono d h).eq_or_lt
  · have hsig : rneSig a d ≤ rneSig b d := by
      unfold rneSig
      rw [heq]
      exact divNearestEven_mono (Nat.mul_pos hd (Nat.two_pow_pos _)) (Nat.mul_le_mul_right _ h)
    rw [heq]
    exact Nat.add_le_add_left hsig _
  · have ha := rneSig_le a d
    have hb : 2 ^ 23 ≤ rneSig b d := le_rneSig_of_shift (Nat.zero_lt_of_lt hlt)
    omega

/-! ### The pattern's value -/

theorem exponent_toNat (w : Word) : (w.extractLsb' 23 8).toNat = w.toNat / 2 ^ 23 % 256 := by
  rw [BitVec.extractLsb'_toNat, Nat.shiftRight_eq_div_pow]

theorem fraction_toNat (w : Word) : (w.extractLsb' 0 23).toNat = w.toNat % 2 ^ 23 := by
  rw [BitVec.extractLsb'_toNat, Nat.shiftRight_zero]

/-- A rounded significand of 2^24 carries into the exponent, one below 2^23 is a subnormal's. -/
theorem f32Units_of_toNat {w : Word} {e m : Nat} (hw : w.toNat = e * 2 ^ 23 + m) (he : e ≤ 252) (hm : m ≤ 2 ^ 24)
    (hnormal : 0 < e → 2 ^ 23 ≤ m) : f32Units w = m * 2 ^ e := by
  rcases Nat.lt_or_ge m (2 ^ 23) with hsub | hnorm
  · obtain rfl : e = 0 := by omega
    have hex : (w.extractLsb' 23 8).toNat = 0 := by rw [exponent_toNat]; omega
    have hfr : (w.extractLsb' 0 23).toNat = m := by rw [fraction_toNat]; omega
    simp [f32Units, hex, hfr]
  · obtain hlt | rfl := hm.lt_or_eq
    · have hex : (w.extractLsb' 23 8).toNat = e + 1 := by rw [exponent_toNat]; omega
      have hfr : (w.extractLsb' 0 23).toNat = m - 2 ^ 23 := by rw [fraction_toNat]; omega
      simp only [f32Units, hex, hfr, if_neg e.succ_ne_zero, Nat.add_sub_cancel, Nat.add_sub_cancel' hnorm]
    · have hex : (w.extractLsb' 23 8).toNat = e + 2 := by rw [exponent_toNat]; omega
      have hfr : (w.extractLsb' 0 23).toNat = 0 := by rw [fraction_toNat]; omega
      simp only [f32Units, hex, hfr, if_neg (e + 1).succ_ne_zero, Nat.add_zero]
      rw [show e + 2 - 1 = 1 + e from by omega, Nat.pow_add, ← Nat.mul_assoc, ← Nat.pow_add]

/-- A pattern's value has a 24-bit significand (R187). -/
theorem f32Units_eq_mul_pow (w : Word) : ∃ m x, f32Units w = m * 2 ^ x ∧ m < 2 ^ 24 := by
  have hfr := (w.extractLsb' 0 23).isLt
  simp only [f32Units]
  split_ifs
  · exact ⟨_, 0, (Nat.mul_one _).symm, by omega⟩
  · exact ⟨_, _, rfl, by omega⟩

/-- Every pattern's value is a multiple of `2 ^ e`, or less than any 24-bit significand's at that exponent. -/
theorem f32Units_grid (w : Word) (e : Nat) :
    (∃ j, f32Units w = j * 2 ^ e) ∨ (0 < e ∧ f32Units w < 2 ^ 23 * 2 ^ e) := by
  obtain ⟨m, x, hw, hm⟩ := f32Units_eq_mul_pow w
  rcases Nat.lt_or_ge x e with hlt | hge
  · right
    have hpow : 2 * 2 ^ x ≤ 2 ^ e := by
      rw [← Nat.pow_succ']
      exact Nat.pow_le_pow_right Nat.two_pos hlt
    have hmul : m * 2 ^ x < 2 ^ 24 * 2 ^ x := Nat.mul_lt_mul_of_pos_right hm (Nat.two_pow_pos x)
    exact ⟨Nat.zero_lt_of_lt hlt, by omega⟩
  · left
    exact ⟨m * 2 ^ (x - e), by rw [hw, Nat.mul_assoc, ← Nat.pow_add, Nat.sub_add_cancel hge]⟩

/-! ### Quotients below 2^24 -/

section
variable {n d : Nat} (h : n < 2 ^ 24 * d)
include h

/-- The pattern has no need of the cap at infinity. -/
theorem toNat_rne32_of_lt : (rne32 n d).toNat = rneShift n d * 2 ^ 23 + rneSig n d := by
  have hshift := rneShift_le h
  have hsig := rneSig_le n d
  rw [toNat_rne32]
  omega

theorem f32Units_rne32 : f32Units (rne32 n d) = rneSig n d * 2 ^ rneShift n d :=
  f32Units_of_toNat (toNat_rne32_of_lt h) ((rneShift_le h).trans (by decide)) (rneSig_le n d) le_rneSig_of_shift

theorem f32Finite_rne32 : f32Finite (rne32 n d) = true := by
  have hshift := rneShift_le h
  have hsig := rneSig_le n d
  rw [f32Finite, decide_eq_true_iff, exponent_toNat, toNat_rne32_of_lt h]
  omega

theorem getLsbD_31_rne32 : (rne32 n d).getLsbD 31 = false := by
  have hshift := rneShift_le h
  have hsig := rneSig_le n d
  refine Nat.testBit_lt_two_pow ?_
  rw [toNat_rne32_of_lt h]
  omega

theorem getLsbD_0_rne32 (heven : rneSig n d % 2 = 0) : (rne32 n d).getLsbD 0 = false := by
  refine Nat.mod_two_eq_zero_iff_testBit_zero.mp ?_
  rw [toNat_rne32_of_lt h]
  omega

/-- No pattern is nearer to `n / d` than `rne32`'s, and where another is as near that one's last bit is 0 (R187). -/
theorem rne32_nearest (w : Word) :
    natDist (d * f32Units (rne32 n d)) (n * 2 ^ 149) ≤ natDist (d * f32Units w) (n * 2 ^ 149) ∧
    (natDist (d * f32Units w) (n * 2 ^ 149) = natDist (d * f32Units (rne32 n d)) (n * 2 ^ 149) →
      f32Units w ≠ f32Units (rne32 n d) → (rne32 n d).getLsbD 0 = false) := by
  have hd : 0 < d := Nat.pos_of_ne_zero fun h0 => by simp [h0] at h
  have hstep : 0 < d * 2 ^ rneShift n d := Nat.mul_pos hd (Nat.two_pow_pos _)
  have hunits : ∀ m, d * (m * 2 ^ rneShift n d) = m * (d * 2 ^ rneShift n d) := fun m => Nat.mul_left_comm ..
  rw [f32Units_rne32 h, hunits]
  rcases f32Units_grid w (rneShift n d) with ⟨j, hj⟩ | ⟨hpos, hlt⟩
  · obtain ⟨hle, htie⟩ := divNearestEven_nearest (n * 2 ^ 149) j hstep
    rw [hj, hunits]
    exact ⟨hle, fun heq hne => getLsbD_0_rne32 h (htie heq fun hjm => hne (congrArg (· * 2 ^ rneShift n d) hjm))⟩
  · have hle := (divNearestEven_nearest (n * 2 ^ 149) (2 ^ 23) hstep).1
    have hbelow : d * f32Units w < 2 ^ 23 * (d * 2 ^ rneShift n d) := by
      rw [← hunits]
      exact Nat.mul_lt_mul_of_pos_left hlt hd
    have hquot : 2 ^ 23 * (d * 2 ^ rneShift n d) ≤ n * 2 ^ 149 := by
      rw [← hunits, Nat.mul_comm d]
      exact (Nat.le_div_iff_mul_le hd).mp (le_quotient_of_shift hpos)
    have hfar : natDist (rneSig n d * (d * 2 ^ rneShift n d)) (n * 2 ^ 149) < natDist (d * f32Units w) (n * 2 ^ 149) := by
      unfold rneSig
      unfold natDist at hle ⊢
      omega
    exact ⟨hfar.le, fun heq => absurd heq hfar.ne'⟩

end

/-- An integer below 2^24 is its own rounding (R188). -/
theorem f32Units_rne32_mul {j d : Nat} (hd : 0 < d) (hj : j < 2 ^ 24) : f32Units (rne32 (d * j) d) = j * 2 ^ 149 := by
  have hlt : d * j < 2 ^ 24 * d := by
    rw [Nat.mul_comm]
    exact Nat.mul_lt_mul_of_pos_right hj hd
  have hpow : 2 ^ rneShift (d * j) d * 2 ^ (149 - rneShift (d * j) d) = 2 ^ 149 := by
    rw [← Nat.pow_add, Nat.add_sub_cancel' (rneShift_le hlt)]
  have hsig : rneSig (d * j) d = j * 2 ^ (149 - rneShift (d * j) d) := by
    have hscaled : d * j * 2 ^ 149 = j * 2 ^ (149 - rneShift (d * j) d) * (d * 2 ^ rneShift (d * j) d) := by
      rw [← hpow]
      ring
    rw [rneSig, hscaled]
    exact divNearestEven_mul _ (Nat.mul_pos hd (Nat.two_pow_pos _))
  rw [f32Units_rne32 hlt, hsig, Nat.mul_assoc, Nat.mul_comm (2 ^ _), hpow]

/-! ### Tenths -/

/-- Settles O48: the significand is the nearest integer at its shift, and every finite pattern is on that grid or below it. -/
theorem tenthsAreCorrectlyRounded : Obligations.TenthsAreCorrectlyRounded := by
  intro k hk
  have hlt : k < 2 ^ 24 * 10 := by omega
  exact ⟨f32Finite_rne32 hlt, getLsbD_31_rne32 hlt, fun b _ => rne32_nearest hlt b⟩

/-- Settles O49: the pattern grows with the quotient, so the ends of the range bound it. -/
theorem tenthsRange : Obligations.TenthsRange := by
  refine ⟨rne32_zero 10, fun k hlow hhigh => ?_, fun j hj => f32Units_rne32_mul (by decide) (by omega)⟩
  have hmin : 0x3DCCCCCD ≤ (rne32 k 10).toNat := toNat_rne32_mono (by decide) hlow |>.trans' (by decide)
  have hmax : (rne32 k 10).toNat ≤ 0x45CCCC00 := toNat_rne32_mono (by decide) hhigh |>.trans (by decide)
  refine ⟨hmin, hmax, ?_⟩
  rw [exponent_toNat]
  omega

end Sys2Proof.Machine
end

section
/-! The exceptions of the CTRL writes (spec/60_exceptions.md R204 to R206): the write dropped while busy, the reserved write,
and the one fault of the model. -/

namespace Sys2Proof.Machine

/-! ### The CTRL writes as the checks of R111 -/

/-- A CTRL write is the checks of R111 on some command, which is a READ exactly for the READs of a legal variant. -/
theorem exec_of_isCtrl {i : Instr} (hi : i.isCtrl = true) : ∃ cmd var pu ie,
    (∀ v, cmd = .read v ↔ i.readVariant = some v) ∧ ∀ s, exec i s = ctrlWrite cmd var pu ie s := by
  cases hv : i.readVariant with
  | some v =>
    obtain ⟨pu, ie, he⟩ := exec_of_readVariant hv
    exact ⟨.read v, v.code, pu, ie, by simp, he⟩
  | none =>
    cases i
    case ctrlNop var pu ie => exact ⟨.nop, var, pu, ie, by simp, fun _ => rfl⟩
    case ctrlInit var pu ie => exact ⟨.init, var, pu, ie, by simp, fun _ => rfl⟩
    case ctrlReadDht11 | ctrlReadDht22 | ctrlReadSi7021 => cases hv
    case ctrlReadRsvd => exact ⟨.reserved, 0b11#2, false, false, by simp, fun _ => rfl⟩
    case ctrlCmdRsvd => exact ⟨.reserved, 0b00#2, false, false, by simp, fun _ => rfl⟩
    all_goals cases hi

/-- A transaction that is no CTRL write answers a next state in every state, and is no READ command. -/
theorem exec_of_not_isCtrl {i : Instr} (hi : i.isCtrl = false) (s : State) :
    i.readVariant = none ∧ ∃ t, exec i s = .next t := by
  cases i
  case ctrlNop | ctrlInit | ctrlReadDht11 | ctrlReadDht22 | ctrlReadSi7021 | ctrlReadRsvd | ctrlCmdRsvd => cases hi
  all_goals exact ⟨rfl, _, rfl⟩

section
variable {cmd : CtrlCommand} {var : BitVec 2} {pu ie : Bool} {s : State}

theorem ctrlWrite_of_busy (hb : s.busy = true) : ctrlWrite cmd var pu ie s = .next { respond 0#32 s with ovrF := true } := by
  simp [ctrlWrite, hb, setOvr]

theorem ctrlWrite_reserved_of_rest (hb : s.busy = false) :
    ctrlWrite .reserved var pu ie s = .next { respond 0#32 s with cmderrF := true } := by
  simp [ctrlWrite, hb, setCmderr]

/-- The checks of R111 end in a fault exactly at the last of them: a READ, not busy, that finds INIT_DONE = 0. -/
theorem ctrlWrite_fault_iff {f : Fault} : ctrlWrite cmd var pu ie s = .fault f ↔
    f = .readBeforeInit ∧ s.busy = false ∧ s.initDone = false ∧ ∃ v, cmd = .read v := by
  cases hb : s.busy with
  | true => simp [ctrlWrite_of_busy hb]
  | false =>
    cases cmd with
    | nop => simp [ctrlWrite_nop_of_rest hb]
    | init => simp [ctrlWrite_init_of_rest hb]
    | reserved => simp [ctrlWrite_reserved_of_rest hb]
    | read v =>
      cases hin : s.initDone with
      | true => simp [ctrlWrite_read_of_rest hb v hin]
      | false => simp [ctrlWrite, hb, hin]

end

/-- Settles O12: the busy check is the first one of every CTRL write. -/
theorem ctrlWriteWhileBusyOnlySetsOvr : Obligations.CtrlWriteWhileBusyOnlySetsOvr := by
  intro i s hi hb
  obtain ⟨cmd, var, pu, ie, -, he⟩ := exec_of_isCtrl hi
  rw [he, ctrlWrite_of_busy hb]
  rfl

/-! ### Reserved encodings -/

theorem decodeCtrl_of_cmd_reserved {d : Word} (hd : d.extractLsb' 0 2 = 0b11#2) : decodeCtrl d = .ctrlCmdRsvd := by
  simp [decodeCtrl, hd]

/-- Bits 3:0 = 0xE are CMD = READ and VARIANT = 3 (R91). -/
theorem decodeCtrl_of_variant_reserved {d : Word} (hd : d.extractLsb' 0 4 = 0b1110#4) : decodeCtrl d = .ctrlReadRsvd := by
  have hcmd : d.extractLsb' 0 2 = 0b10#2 := by
    calc d.extractLsb' 0 2 = (d.extractLsb' 0 4).extractLsb' 0 2 := by simp
      _ = 0b10#2 := by rw [hd]; rfl
  have hvar : d.extractLsb' 2 2 = 0b11#2 := by
    calc d.extractLsb' 2 2 = (d.extractLsb' 0 4).extractLsb' 2 2 := by simp
      _ = 0b11#2 := by rw [hd]; rfl
  simp [decodeCtrl, hcmd, hvar]

/-- Settles O13: both reserved transactions are the reserved command, and both forms of the data decode to them. -/
theorem reservedCtrlWritesOnlySetCmdErr : Obligations.ReservedCtrlWritesOnlySetCmdErr := by
  intro s hb t
  have hreserved : ∀ var, ctrlWrite .reserved var false false s = .next t := fun _ => ctrlWrite_reserved_of_rest hb
  have hread : exec .ctrlReadRsvd s = .next t := hreserved 0b11#2
  have hcmd : exec .ctrlCmdRsvd s = .next t := hreserved 0b00#2
  refine ⟨hread, hcmd, fun d hd => ?_⟩
  have hdec : decode (mkTW true 0x00#7 d) = decodeCtrl d := decode_mkTW true 0x00#7 d
  rcases hd with hd | hd
  · rw [hdec, decodeCtrl_of_cmd_reserved hd, hcmd]
  · rw [hdec, decodeCtrl_of_variant_reserved hd, hread]

/-! ### The fault -/

/-- A transaction faults exactly if it is a READ of a legal variant, not busy, before INIT (R206). -/
theorem exec_fault_iff {i : Instr} {s : State} {f : Fault} : exec i s = .fault f ↔
    f = .readBeforeInit ∧ s.busy = false ∧ s.initDone = false ∧ i.readVariant.isSome = true := by
  cases hi : i.isCtrl with
  | true =>
    obtain ⟨cmd, var, pu, ie, hcmd, he⟩ := exec_of_isCtrl hi
    simp only [he, ctrlWrite_fault_iff, hcmd, Option.isSome_iff_exists]
  | false =>
    obtain ⟨hread, t, he⟩ := exec_of_not_isCtrl hi s
    simp [he, hread]

/-- An edge faults exactly if it is one of a legal state, without reset, whose transaction faults. -/
theorem step_fault_iff {s : State} {f : Fault} : step s = .fault f ↔
    s.par.Legal ∧ (edgeInput s).rst = false ∧ ∃ i, edgeInstr s = some i ∧ exec i s = .fault f := by
  constructor
  · intro h
    have hl : s.par.Legal := by
      by_contra hl
      cases h.symm.trans (step_of_not_legal hl)
    have hr : (edgeInput s).rst = false := by
      by_contra hr
      cases h.symm.trans (step_of_rst hl (Bool.eq_true_of_not_eq_false hr))
    have hnext : ∀ u, ¬ HostPart s u := fun u hu => by cases h.symm.trans (step_of_hostPart hl hr hu)
    cases hw : busTransaction (edgeInput s) with
    | none => exact absurd (.inl ⟨hw, rfl⟩) (hnext _)
    | some w =>
      refine ⟨hl, hr, decode w, by rw [edgeInstr, hw]; rfl, ?_⟩
      cases he : exec (decode w) s with
      | next u => exact absurd (.inr ⟨w, hw, he⟩) (hnext u)
      | fault g => exact (step_of_exec_fault hl hr hw he).symm.trans h
      | refused r => exact absurd he (exec_not_refused _ _ r)
  · rintro ⟨hl, hr, i, hi, he⟩
    obtain ⟨w, hw, rfl⟩ := Option.map_eq_some_iff.mp hi
    exact step_of_exec_fault hl hr hw he

/-- Settles O10: an edge's fault is its transaction's, and that one is R206's. -/
theorem stepFaultsExactlyOnReadBeforeInit : Obligations.StepFaultsExactlyOnReadBeforeInit := by
  intro s f
  simp only [step_fault_iff, exec_fault_iff]
  constructor
  · rintro ⟨hl, hr, i, hi, hf, hb, hin, hread⟩
    exact ⟨hf, hl, hr, hb, hin, i, hi, hread⟩
  · rintro ⟨hf, hl, hr, hb, hin, i, hi, hread⟩
    exact ⟨hl, hr, i, hi, hf, hb, hin, hread⟩

end Sys2Proof.Machine
end

section
/-! The flag DONE and the interrupt (spec/10_state.md R36, spec/60_exceptions.md R207). -/

namespace Sys2Proof.Machine

/-- No transaction sets DONE (R36). -/
theorem exec_doneF {i : Instr} {s t : State} (h : exec i s = .next t) (hs : s.doneF = false) : t.doneF = false := by
  rcases exec_next h with ⟨-, -, rfl⟩ | ⟨-, -, rfl⟩ | ⟨-, _, _, _, -, rfl⟩ | ⟨-, _, _, _, -, rfl⟩ |
    ⟨-, -, _, _, _, -, rfl⟩ | ⟨_, _, _, -, rfl⟩ | ⟨-, -, _, rfl⟩
  case inr.inr.inr.inr.inr.inl => simp [mergeFlag, hs]
  all_goals simp [hs]

theorem hostPart_doneF {s h : State} (hh : HostPart s h) (hs : s.doneF = false) : h.doneF = false := by
  rcases hh with ⟨-, rfl⟩ | ⟨_, -, he⟩
  · exact hs
  · exact exec_doneF he hs

/-- After an edge from a busy state DONE is what the host part left, or 1 if the read ended in that edge (R171, R182). -/
theorem step_busy_doneF {s t : State} (h : step s = .next t) (hr : (edgeInput s).rst = false) (hb : s.busy = true) :
    ∃ u, HostPart s u ∧ t.doneF = if t.busy then u.doneF else true := by
  obtain ⟨u, hu, -, hub, rfl⟩ := step_busy h hr hb
  refine ⟨u, hu, ?_⟩
  cases (edgeInput s).usTick with
  | true => exact tick_doneF _ hub
  | false => exact (if_pos hub).symm

/-- Settles O31: in an edge the end of a read alone sets DONE, and BUSY falls in a tick only (O32). -/
theorem doneRisesExactlyAtTheEndOfARead : Obligations.DoneRisesExactlyAtTheEndOfARead := by
  intro s t h hr
  obtain ⟨-, -, hfall⟩ := criticalSectionFollowsTheRead s t h
  refine ⟨fun hs ht => ?_, fun hb htb => ?_, rfl⟩
  · cases hb : s.busy with
    | false =>
      obtain ⟨u, hu, rfl⟩ := step_rest h hr hb
      exact absurd (hostPart_doneF hu hs) (by simpa using ht)
    | true =>
      obtain ⟨u, hu, hdone⟩ := step_busy_doneF h hr hb
      have htb : t.busy = false := by simpa [ht, hostPart_doneF hu hs] using hdone
      rcases hfall hb htb with hr' | ⟨htick, -⟩
      · cases hr.symm.trans hr'
      · exact ⟨rfl, htick, htb⟩
  · obtain ⟨u, -, hdone⟩ := step_busy_doneF h hr hb
    simpa [htb] using hdone

end Sys2Proof.Machine
end

section
/-! The reset edge (spec/70_reset_and_hazards.md R230). -/

namespace Sys2Proof.Machine

/-- But for the model's own fields the state after a reset edge is the reset state (R48). -/
theorem resetEdge_eq_reset (s : State) : resetEdge s =
    { State.reset with par := (resetEdge s).par, inputs := (resetEdge s).inputs, edges := (resetEdge s).edges } := rfl

@[simp] theorem resetEdge_busRdata (s : State) : (resetEdge s).busRdata = 0#32 := rfl

/-- Settles O7: the step of such an edge is `resetEdge`, which takes nothing but the model's own fields from the state. -/
theorem resetEdgeRestoresEveryRegister : Obligations.ResetEdgeRestoresEveryRegister := by
  intro s hl hr
  exact ⟨resetEdge s, step_of_rst hl hr, resetEdge_eq_reset s, resetEdge_busRdata s⟩

end Sys2Proof.Machine
end
